-- ==== Sys2Proof/Word.lean ====
section
/-! DEFINITION. The word types of the Gulvan 4804: register words, tick counts, pin masks and pin
values, lane masks, bytes, and the finite sets of names (lanes, pins, groups, trip sets). -/

namespace Sys2Proof

/-- One byte of host memory or of the Vector Store. -/
abbrev Byte := BitVec 8

/-- A 16-bit field of a record, a vector count or a pace integer (R177). -/
abbrev Half := BitVec 16

/-- A 32-bit register word or 4-byte field (R177, R184). -/
abbrev Word := BitVec 32

/-- A 64-bit host address (R177). -/
abbrev Addr := BitVec 64

/-- A tick count: the timebase and every time derived from it, modulo 2^48 (R98, R99). -/
abbrev Tick := BitVec 48

/-- A pin mask or a pin value: bit n stands for pin Vn (00_scope.md section 4, R177). -/
abbrev Pins := BitVec 48

/-- A lane mask: bit n stands for lane n (00_scope.md section 4, R177). -/
abbrev LaneMask := BitVec 4

/-- The number of a lane, 0 to 3. -/
abbrev LaneId := Fin 4

/-- The number of a pin, 0 to 47. -/
abbrev PinId := Fin 48

/-- The number of a start group, 0 to 7 (R58). -/
abbrev GroupId := Fin 8

/-- The number of a trip set, 0 or 1 (R127). -/
abbrev SetId := Fin 2

/-- The serial number the model gives each bus operation, so that a return can be matched to the
request that issued it (R163). -/
abbrev OpId := Nat

/-- `n` bytes as one bus operation carries them, offset 0 first (R177). -/
abbrev Bytes (n : Nat) := Vector Byte n

end Sys2Proof
end

