-- ==== Sys2Proof/Config.lean ====
section
/-! DEFINITION. What the part fixes (the sizes of its blocks, its identification word) and the one
free value of the model: the order in which work that falls together is taken. -/

namespace Sys2Proof.Config

/-- The word IDENT reads: vendor 52h, part 4804, revision 1 (R166, R183). -/
def identWord : Word := 0x5212C401#32

/-- Places in a lane's staging queue (R4). -/
def stagingPlaces : Nat := 4

/-- Blocks of the Vector Store (R23). -/
def storeBlocks : Nat := 256

/-- Vector positions of one block (R23). -/
def blockVectors : Nat := 16

/-- Bytes of one vector (R179). -/
def vectorBytes : Nat := 16

/-- Records the capture FIFO holds (R121). -/
def captureDepth : Nat := 32

/-- General entries of the Post Queue (R154). -/
def generalEntries : Nat := 14

/-- Ticks of one microsecond, the unit of the holdoff (10.5). -/
def ticksPerMicrosecond : Tick := 100#48

/-- A bound on the timed events of one tick that the look ahead of the qualifier takes; a tick has fewer: at most
five of a lane, two of a group and one of a ring (notes/assumptions/20.md). -/
def tickEventBound : Nat := 64

/-- FREE VALUE. The spec leaves open in which order things that fall together are taken ("either may
be taken first": R27, R64, R119, R130, R155 and the orders of one tick). `pick n k` is the `k`-th
number of the `n`-th such choice. It has no body: nothing can be proved of its values
(notes/assumptions/3.md). -/
opaque pick : Nat → Nat → Nat

end Sys2Proof.Config
end

