-- ==== Sys2Proof/Syntax.lean ====
section
/-! DEFINITION. The commands of the part: one constructor of `Instr` for each row of
spec/opcode_table.json, with the operands the row's rule names. -/

namespace Sys2Proof

/-- The words of the register window, by offset 00h to 1Ch (R166). -/
inductive Reg where
  | ident | control | status | setupLo | setupHi | submit | acknowledge | unused
  deriving DecidableEq, Repr

/-- The two rings the part writes (R164): the completion ring and the capture ring. -/
inductive Ring where
  | completion | capture
  deriving DecidableEq, Repr

/-- What the link returns for a read of `n` bytes: its data, or a bus error (R163). -/
inductive ReadReply (n : Nat) where
  | data (bytes : Bytes n)
  | busError
  deriving DecidableEq, Repr

/-- The steps of the part (spec/opcode_table.json). Register writes come from the host, returns from
the link, level changes from the equipment outside; the others are the part's own events, which the
model takes when their tick has come (notes/assumptions/1.md). -/
inductive Instr where
  /-- CONTROL written with code 1 (R170). -/
  | enable
  /-- CONTROL written with code 2 (R173). -/
  | disable
  /-- CONTROL written with code 3 (R174). -/
  | reset
  /-- CONTROL written with code 4 and a lane mask (R175). -/
  | abort (mask : LaneMask)
  /-- CONTROL written with code 5 and a lane mask (R176). -/
  | start (mask : LaneMask)
  /-- CONTROL written with a code that is no command (R168). -/
  | unknownCommand (code : Byte)
  /-- SUBMIT written with a lane and a new tail (R142). -/
  | submit (lane : LaneId) (tail : BitVec 12)
  /-- ACKNOWLEDGE written with ring bit 0 and a new head (R160). -/
  | acknowledgeCompletion (head : BitVec 12)
  /-- ACKNOWLEDGE written with ring bit 1 and a new head (R124). -/
  | acknowledgeCapture (head : BitVec 12)
  /-- STATUS written (R167). -/
  | statusWrite (value : Word)
  /-- SETUP_LO written (R166). -/
  | setupLoWrite (value : Word)
  /-- SETUP_HI written (R166). -/
  | setupHiWrite (value : Word)
  /-- A write that changes nothing: to IDENT, to offset 1Ch, or with fewer than four byte enables (R184). -/
  | registerWrite (reg : Reg) (byteEnables : BitVec 4) (value : Word)
  /-- Power-on (R98). -/
  | powerOn
  /-- Assertion and release of the RESET pin (R174). -/
  | resetPin
  /-- What the equipment outside puts on the pins changes: `level` is the level it puts on each pin,
  and on the pins of `hold` it holds that level against a drive of the part (R114). -/
  | rawLevelChange (level hold : Pins)
  /-- A tick of the sample grid (R115). -/
  | qualifierSample
  /-- The setup read returns (R171). -/
  | setupReadReturn (reply : ReadReply 256)
  /-- The Host Port gives turns (R163). -/
  | hostPortTurn
  /-- The fetch read of a lane returns with its 64 bytes (R146). -/
  | recordArrival (lane : LaneId) (record : Bytes 64)
  /-- The fetch read of a lane returns with a bus error (R149). -/
  | fetchBusError (lane : LaneId)
  /-- A fetch read discarded by ABORT returns (R151). -/
  | discardedFetchReturn (lane : LaneId)
  /-- The load read of the staging entry at `place` returns with data (R34). A read shorter than 256
  bytes fills the first bytes. -/
  | loadReadReturn (lane : LaneId) (place : Fin 4) (data : Bytes 256)
  /-- The load read of the staging entry at `place` returns with a bus error (R35). -/
  | loadFault (lane : LaneId) (place : Fin 4)
  /-- The load read of the withdrawn staging entry at `place` returns (R36). -/
  | withdrawnLoadReturn (lane : LaneId) (place : Fin 4)
  /-- The operation `op`, discarded by DISABLE, a device FAULT or reset, returns (R163). -/
  | staleReturn (op : OpId)
  /-- The completion write completes (R159). -/
  | completionWriteDone
  /-- The completion write returns with a bus error (R161). -/
  | completionWriteError
  /-- The capture write completes (R123). -/
  | captureWriteDone
  /-- The capture write returns with a bus error (R125). -/
  | captureWriteError
  /-- The wait limit of a lane's waiting claim expires (R52). -/
  | claimTimeout (lane : LaneId)
  /-- A forming group reaches its deadline (R67). -/
  | groupDeadline (group : GroupId)
  /-- A committed group reaches its start tick (R66). -/
  | groupStartTick (group : GroupId)
  /-- The time of a lane's waiting MARK becomes due (R12). -/
  | markDue (lane : LaneId)
  /-- A lane's BURST in TIME_WAIT reaches its first vector boundary (R14). -/
  | burstStart (lane : LaneId)
  /-- The strobe of the period in progress on a lane (R83). -/
  | strobe (lane : LaneId)
  /-- The end of the period in progress on a lane (R91). -/
  | periodEnd (lane : LaneId)
  /-- A ring's holdoff timer expires (R164). -/
  | holdoffExpiry (ring : Ring)
  deriving DecidableEq, Repr

end Sys2Proof
end

