-- ==== Sys2Proof/WellFormed.lean ====
section
/-! DEFINITION. Which terms of `Instr` are commands of the table. Operands whose range a type already
holds need no check; two rows need one. -/

namespace Sys2Proof

/-- UNKNOWN_COMMAND names the codes that are no command: 0 and 6 to 255 (R168). -/
def unknownCode (code : Byte) : Bool := code == 0#8 || BitVec.ule 6#8 code

/-- REGISTER_WRITE names the writes that change nothing: to IDENT, to offset 1Ch, or with fewer than
all four byte enables (R184). -/
def idleWrite (reg : Reg) (byteEnables : BitVec 4) : Bool :=
  byteEnables != 0xF#4 || reg == .ident || reg == .unused

/-- The checks of the two rows that need one. -/
def Instr.wellFormed : Instr → Bool
  | .unknownCommand code => unknownCode code
  | .registerWrite reg byteEnables _ => idleWrite reg byteEnables
  | .enable | .disable | .reset | .abort _ | .start _ | .submit _ _ | .acknowledgeCompletion _
  | .acknowledgeCapture _ | .statusWrite _ | .setupLoWrite _ | .setupHiWrite _ | .powerOn | .resetPin
  | .rawLevelChange _ _ | .qualifierSample | .setupReadReturn _ | .hostPortTurn | .recordArrival _ _
  | .fetchBusError _ | .discardedFetchReturn _ | .loadReadReturn _ _ _ | .loadFault _ _
  | .withdrawnLoadReturn _ _ | .staleReturn _ | .completionWriteDone | .completionWriteError
  | .captureWriteDone | .captureWriteError | .claimTimeout _ | .groupDeadline _ | .groupStartTick _
  | .markDue _ | .burstStart _ | .strobe _ | .periodEnd _ | .holdoffExpiry _ => true

end Sys2Proof
end

