-- ==== Sys2Proof/Decode.lean ====
section
/-! DEFINITION. Reading commands from words. No row of spec/opcode_table.json gives bits, so
`decodeTableWord` answers none. The register rows are words all the same: `writeAt` reads the command
that a write to the register window offers, by offset and word (R166, R168, R183, R184). -/

namespace Sys2Proof

/-- The command a word spells by the table's bits. The table gives no row any bits. -/
def decodeTableWord (_nbits _w : Nat) : Option Instr := none

/-- CONTROL: the code in bits 0 to 7 and the lane mask in bits 8 to 11; bits 12 to 31 are not looked
at, nor is the lane mask of ENABLE, DISABLE and RESET (R168). -/
def decodeControl (w : Word) : Instr :=
  let code := w.extractLsb' 0 8
  if code = 1#8 then .enable
  else if code = 2#8 then .disable
  else if code = 3#8 then .reset
  else if code = 4#8 then .abort (w.extractLsb' 8 4)
  else if code = 5#8 then .start (w.extractLsb' 8 4)
  else .unknownCommand code

/-- SUBMIT: the new tail in bits 0 to 11 and the lane in bits 30 and 31 (R183). -/
def decodeSubmit (w : Word) : Instr :=
  .submit (w.extractLsb' 30 2).toFin (w.extractLsb' 0 12)

/-- ACKNOWLEDGE: the new head in bits 0 to 11 and the ring in bit 31 (R183). -/
def decodeAcknowledge (w : Word) : Instr :=
  if w.getLsbD 31 then .acknowledgeCapture (w.extractLsb' 0 12)
  else .acknowledgeCompletion (w.extractLsb' 0 12)

/-- The words of the register window, from offset 00h to 1Ch. -/
def registers : List Reg := [.ident, .control, .status, .setupLo, .setupHi, .submit, .acknowledge, .unused]

/-- The offset of a register in the window (R166, R183). -/
def Reg.offset : Reg → Nat
  | .ident => 0x00
  | .control => 0x04
  | .status => 0x08
  | .setupLo => 0x0C
  | .setupHi => 0x10
  | .submit => 0x14
  | .acknowledge => 0x18
  | .unused => 0x1C

/-- The register at an offset: the window takes aligned accesses at the offsets 00h to 1Ch and no others
(R166, R183, R184). -/
def regAt (offset : Nat) : Option Reg := registers.find? fun reg => reg.offset == offset

/-- The command a write of `w` to the register `reg` offers. A write with fewer than all four byte
enables takes no command, and a write to IDENT or to offset 1Ch changes nothing (R166, R184). -/
def decodeWrite (reg : Reg) (byteEnables : BitVec 4) (w : Word) : Instr :=
  if byteEnables = 0xF#4 then
    match reg with
    | .control => decodeControl w
    | .status => .statusWrite w
    | .setupLo => .setupLoWrite w
    | .setupHi => .setupHiWrite w
    | .submit => decodeSubmit w
    | .acknowledge => decodeAcknowledge w
    | .ident => .registerWrite .ident byteEnables w
    | .unused => .registerWrite .unused byteEnables w
  else .registerWrite reg byteEnables w

/-- The command a write of `w` at an offset of the window offers (R166, R183). -/
def writeAt (offset : Nat) (byteEnables : BitVec 4) (w : Word) : Option Instr :=
  (regAt offset).map fun reg => decodeWrite reg byteEnables w

end Sys2Proof
end

