-- ==== Sys2Proof/Machine/State.lean ====
section
/-! DEFINITION. The state of the Gulvan 4804 as plain data, block by block as 00_scope.md section 3
lists them, and its value after reset. -/

namespace Sys2Proof.Machine

/-- The device states (R169). -/
inductive DeviceState where
  | off | configuring | on | fault
  deriving DecidableEq, Repr

/-- The run states of a lane (section 1.2). -/
inductive RunState where
  | off | run | tripped | stopped | faulted
  deriving DecidableEq, Repr

/-- The status codes of completion records (R185). -/
inductive Status where
  | ok | mismatch | mismatchStop | gateTimeout | badRecord | badVector | loadFault | pinConflict
  | claimTimeout | groupTimeout | groupMismatch | aborted | tripped | tripDiscard | superseded
  | badPace | stillTripped | fetchFault | skipped
  deriving DecidableEq, Repr

/-- What the part puts on a pin, and the safe levels (section 3.1). -/
inductive Level where
  | low | high | float
  deriving DecidableEq, Repr

/-- The role of an owned pin (R41). -/
inductive Role where
  | drive | sense | both
  deriving DecidableEq, Repr

/-- Which qualified changes of a pin make capture records (R117). -/
inductive Watch where
  | none | rise | fall | both
  deriving DecidableEq, Repr

/-- The fault causes of STATUS (R185). -/
inductive FaultCause where
  | none | completionWrite | captureWrite
  deriving DecidableEq, Repr

/-! ### Lane work (chapters 1, 5, 6) -/

/-- The states of a staging entry (R5). -/
inductive EntryState where
  | waitBlocks | loading | ready | failed
  deriving DecidableEq, Repr

/-- A staging entry (section 1.1): the record it stands for with its kind code, its state, the first
status recorded on it, and for a BURST the block list and the load progress: how many load reads have
been issued and which one is in flight. -/
structure Entry where
  kind : Byte
  record : Bytes 64
  state : EntryState
  status : Option Status
  blocks : List Nat
  issued : Nat
  reading : Option OpId
  deriving DecidableEq, Repr

/-- A vector as a store position holds it (R179). -/
structure Vec where
  drive : Pins
  expect : Pins
  attributes : Word
  deriving DecidableEq, Repr

/-- The compare statistics of a burst (R74). -/
structure Stats where
  vectors : Word
  mismatches : Word
  firstIndex : Half
  firstPass : Half
  firstObserved : Pins
  deriving DecidableEq, Repr

/-- Statistics of a burst that has not played (R15, R17). -/
def Stats.zero : Stats := ⟨0, 0, 0, 0, 0⟩

/-- The play engine of a PLAYING burst (R74): the cursor `play` (from 1), the period number of the play
(from 1), the start and the length of the period in progress, the pace in effect, the pace
accumulator, the gate mark, the stop pending, and the vector taken at the boundary (R82). `strobed`
is the model's own mark that the strobe of the period in progress has been taken
(notes/assumptions/8.md). -/
structure Engine where
  play : Nat
  period : Nat
  periodStart : Tick
  periodLength : Tick
  paceInteger : Half
  paceFraction : Byte
  accumulator : Nat
  gateResolved : Bool
  stop : Option Status
  vector : Vec
  strobed : Bool
  deriving DecidableEq, Repr

/-- The context states (section 1.4). TIME_WAIT carries the tick at which it ends and whether the start is
late (R14, R101), PLAYING the play engine, RETIRING the status and the end time fixed on entry (R16). -/
inductive Context where
  | claiming
  | groupWait
  | timeWait (until_ : Tick) (late : Bool)
  | playing (engine : Engine)
  | retiring (status : Status) (endTime : Tick)
  deriving DecidableEq, Repr

/-- The active context (section 1.1). The wait-limit timer of a CLAIMING entry is the expiry tick its
claim holds in the claim wait list (R49). -/
structure Active where
  kind : Byte
  record : Bytes 64
  context : Context
  taken : Tick
  startTime : Tick
  late : Bool
  grouped : Bool
  blocks : List Nat
  stats : Stats
  deriving DecidableEq, Repr

/-- A skip note (R20): the count of skipped records and its place in the lane's order. -/
structure SkipNote where
  count : Word
  place : Nat
  deriving DecidableEq, Repr

/-- A pending RETUNE (R107). -/
structure Shadow where
  paceInteger : Half
  paceFraction : Byte
  tag : Word
  arrival : Tick
  deriving DecidableEq, Repr

/-- The detail field of a completion record (R180). -/
inductive Detail where
  | none
  | skip (count : Word)
  | trip (lanes : LaneMask) (set : SetId) (count : Half)
  deriving DecidableEq, Repr

/-- A completion record before the writer gives it its phase bit (R180). -/
structure Completion where
  tag : Word
  lane : Byte
  kind : Byte
  status : Status
  late : Bool
  pinsHeld : Bool
  grouped : Bool
  stats : Stats
  startTime : Tick
  endTime : Tick
  detail : Detail
  deriving DecidableEq, Repr

/-- A lane's fetch read in flight (R140). -/
inductive FetchRead where
  | none
  | live (op : OpId)
  | discarded (op : OpId)
  deriving DecidableEq, Repr

/-- A lane: run state, staging queue, reserved slot, skip note, active context, shadow pace and retune
outbox (section 1.1), and the Fetch Unit's ring base, entries, consumer index C, host tail T and
read in flight for it (section 9.1). -/
structure LaneState where
  run : RunState
  staging : List Entry
  reserved : Bool
  skip : Option SkipNote
  active : Option Active
  shadow : Option Shadow
  outbox : List Completion
  base : Addr
  entries : Nat
  consumer : Nat
  tail : Nat
  fetch : FetchRead
  deriving DecidableEq, Repr

/-- A lane after reset (R1, R140). -/
def LaneState.reset : LaneState :=
  { run := .off, staging := [], reserved := false, skip := none, active := none, shadow := none,
    outbox := [], base := 0, entries := 16, consumer := 0, tail := 0, fetch := .none }

/-! ### Shared blocks (chapters 2, 3, 4) -/

/-- A request in the allocation wait queue (R28). The entry it serves is the lane's oldest WAIT_BLOCKS
entry (R7). -/
structure AllocRequest where
  lane : LaneId
  need : Nat
  deriving DecidableEq, Repr

/-- The Block Allocator: the free list and the wait queue (R25, R28). -/
structure Allocator where
  free : List Nat
  queue : List AllocRequest
  deriving DecidableEq, Repr

/-- The allocator after reset: all 256 blocks in ascending order, no request (R25, R28). -/
def Allocator.reset : Allocator := { free := List.range Config.storeBlocks, queue := [] }

/-- A pin entry (section 3.1). `earlier` is the model's own note, for the qualifier: the output the pin had before a
release or a grant that the tick's look has yet to see moved it (R119, notes/assumptions/9.md). -/
structure PinEntry where
  owner : Option LaneId
  role : Option Role
  held : Bool
  output : Level
  safe : Level
  qualifierCount : Nat
  watch : Watch
  earlier : Option Level
  deriving DecidableEq, Repr

/-- A pin entry after reset (R40). -/
def PinEntry.reset : PinEntry :=
  { owner := none, role := none, held := false, output := .float, safe := .float,
    qualifierCount := 0, watch := .none, earlier := none }

/-- A claim in the claim wait list (R49): its lane, its pin set by the burst's drive and sense masks, and
the tick at which its wait limit expires. -/
structure Claim where
  lane : LaneId
  drive : Pins
  sense : Pins
  expiry : Tick
  deriving DecidableEq, Repr

/-- The states of a group (section 4.1). -/
inductive GroupState where
  | idle | forming | committed
  deriving DecidableEq, Repr

/-- A group entry (section 4.1). -/
structure Group where
  state : GroupState
  member : LaneMask
  ready : LaneMask
  timed : Bool
  startTime : Tick
  firstArrival : Tick
  window : Word
  deadline : Tick
  startTick : Tick
  late : Bool
  deriving DecidableEq, Repr

/-- An IDLE group (R58). -/
def Group.idle : Group :=
  { state := .idle, member := 0, ready := 0, timed := false, startTime := 0, firstArrival := 0,
    window := 0, deadline := 0, startTick := 0, late := false }

/-! ### Input qualification, capture and trips (chapters 7, 8) -/

/-- The qualifier's state of one pin (R113). -/
structure QualifiedPin where
  level : Bool
  stability : Nat
  deriving DecidableEq, Repr

/-- The Input Qualifier (section 7.1): the sample interval Q, the next tick of the sample grid, and the
pins. `looked` is the model's own mark: the qualifier has looked at the pins in the present tick
(notes/assumptions/9.md). -/
structure Qualifier where
  interval : Half
  nextSample : Tick
  pins : Vector QualifiedPin 48
  looked : Bool
  deriving DecidableEq, Repr

/-- The Capture Monitor's state of one pin (R117). -/
structure MonitorPin where
  watch : Watch
  previous : Option Tick
  deriving DecidableEq, Repr

/-- A capture record before the writer gives it its phase bit (R118). -/
structure CaptureRecord where
  time : Tick
  pin : PinId
  level : Bool
  owner : Option LaneId
  dropped : Half
  previous : Tick
  deriving DecidableEq, Repr

/-- The Capture Monitor: pins, FIFO and pending drop count (R117, R121). -/
structure Capture where
  pins : Vector MonitorPin 48
  fifo : List CaptureRecord
  dropped : Half
  deriving DecidableEq, Repr

/-- A ring the part writes (R123, R157): base, number of entries, producer index, host head, phase, and the
write in flight. -/
structure RingWriter where
  base : Addr
  entries : Nat
  producer : Nat
  head : Nat
  phase : Bool
  writing : Option OpId
  deriving DecidableEq, Repr

/-- A ring after reset (R123, R157). -/
def RingWriter.reset : RingWriter :=
  { base := 0, entries := 16, producer := 0, head := 0, phase := true, writing := none }

/-- Firings taken while a set's TRIP record was being written (R134). -/
structure Carry where
  count : Half
  lanes : LaneMask
  first : Tick
  last : Tick
  deriving DecidableEq, Repr

/-- A trip set (section 8.1). -/
structure TripSet where
  pinMask : Pins
  pattern : Pins
  laneMask : LaneMask
  enabled : Bool
  armed : Bool
  carry : Option Carry
  deriving DecidableEq, Repr

/-- A trip set after reset (R127). -/
def TripSet.reset : TripSet :=
  { pinMask := 0, pattern := 0, laneMask := 0, enabled := false, armed := false, carry := none }

/-! ### Host side (chapters 10, 11) -/

/-- A general poster (section 10.1): the context port or the retune port of a lane. -/
inductive Port where
  | context (lane : LaneId)
  | retune (lane : LaneId)
  deriving DecidableEq, Repr

/-- Which kind of Post Queue entry a record occupies (R154). -/
inductive PostSource where
  | general
  | trip (set : SetId)
  deriving DecidableEq, Repr

/-- A record of the Post Queue. -/
structure PostItem where
  source : PostSource
  record : Completion
  deriving DecidableEq, Repr

/-- The Post Queue, oldest first, and the waiting-poster list, oldest first (R154, R155). -/
structure PostQueue where
  items : List PostItem
  waiting : List Port
  deriving DecidableEq, Repr

/-- The requesters of the Host Port (R163). -/
inductive Requester where
  | fetch
  | loader (lane : LaneId)
  | completion
  | capture
  deriving DecidableEq, Repr

/-- What an operation on the bus is for. -/
inductive BusSource where
  | setup
  | fetch (lane : LaneId)
  | load (lane : LaneId)
  | completion
  | capture
  deriving DecidableEq, Repr

/-- An operation on the bus: its serial number, what it is for, the host address, the number of bytes, and
the bytes a write carries (none for a read). -/
structure BusOp where
  id : OpId
  source : BusSource
  address : Addr
  length : Nat
  payload : List Byte
  deriving DecidableEq, Repr

/-- The Host Port: last served, the operations on the bus, and the serial number of the next one (R163). -/
structure HostPort where
  lastServed : Requester
  bus : List BusOp
  nextOp : OpId
  deriving DecidableEq, Repr

/-- The setup read in flight: the operation and the address it was issued at (R166, R170). -/
structure SetupRead where
  op : OpId
  address : Addr
  deriving DecidableEq, Repr

/-- The Register Window (chapter 11): the device state, the last accepted command word, the setup address,
the sticky bits, the setup error code, the fault cause and the setup read in flight. -/
structure Window where
  device : DeviceState
  control : Word
  setupAddress : Addr
  indexError : Bool
  refused : Bool
  setupError : Bool
  setupCode : Nat
  faultCause : FaultCause
  setupRead : Option SetupRead
  deriving DecidableEq, Repr

/-- The register window after reset (R166, R167, R174). -/
def Window.reset : Window :=
  { device := .off, control := 0, setupAddress := 0, indexError := false, refused := false,
    setupError := false, setupCode := 0, faultCause := .none, setupRead := none }

/-- The interrupt state of one ring (R164, R165): its threshold, the expiry tick of its holdoff timer while
that runs, and its expired flag. -/
structure RingInterrupt where
  threshold : Byte
  timer : Option Tick
  expired : Bool
  deriving DecidableEq, Repr

/-- The Interrupt Logic (section 10.5). -/
structure Interrupt where
  mask : BitVec 3
  holdoff : Half
  completion : RingInterrupt
  capture : RingInterrupt
  deriving DecidableEq, Repr

/-- What the equipment outside puts on the pins: the level on each pin, and the pins on which it holds that
level against the part's own drive (R114). It belongs to the outside, not to the part. -/
structure Outside where
  level : Pins
  hold : Pins
  deriving DecidableEq, Repr

/-! ### The whole part -/

/-- The state of the part. `pending` is the queue of commands that wait, first in, first out; `outside` is
the equipment's side of the pins; `choices` counts the free choices of order taken so far. All other
fields are the part's. -/
structure State where
  pending : List Instr
  timebase : Tick
  window : Window
  port : HostPort
  lastLane : LaneId
  lanes : Vector LaneState 4
  store : List Host.Cell
  alloc : Allocator
  pins : Vector PinEntry 48
  claims : List Claim
  groups : Vector Group 8
  qualifier : Qualifier
  capture : Capture
  captureRing : RingWriter
  trips : Vector TripSet 2
  post : PostQueue
  completionRing : RingWriter
  interrupt : Interrupt
  outside : Outside
  choices : Nat
  deriving DecidableEq, Repr

/-- A machine fault. -/
inductive Fault where
  /-- Raised by BURST_START, GROUP_START_TICK and PERIOD_END when the vector to play lies outside the
  burst's block list. R24 and R39 give every vector of a burst a place in its block list, so no run
  reaches it. Safe: the model stops where the spec gives no store position to read. -/
  | noStorePosition
  deriving DecidableEq, Repr

/-- A refusal. -/
inductive Refusal where
  /-- Raised by `exec` for a row that has no meaning yet. Safe. No arm raises it. -/
  | notModelled (mnemonic : String)
  /-- Raised by UNKNOWN_COMMAND and REGISTER_WRITE on a term that is not well formed, and so is no command
  of its row (`Instr.wellFormed`): a code 1 to 5, or a full write to a register that answers writes. Safe. -/
  | illFormed
  deriving DecidableEq, Repr

/-- The part right after reset (section 4 of 00_scope.md: each chapter's reset values). -/
def State.reset : State :=
  { pending := []
    timebase := 0
    window := Window.reset
    port := { lastServed := .capture, bus := [], nextOp := 0 }
    lastLane := 3
    lanes := Vector.replicate 4 LaneState.reset
    store := []
    alloc := Allocator.reset
    pins := Vector.replicate 48 PinEntry.reset
    claims := []
    groups := Vector.replicate 8 Group.idle
    qualifier := { interval := 1, nextSample := 0, pins := Vector.replicate 48 ⟨false, 0⟩, looked := false }
    capture := { pins := Vector.replicate 48 ⟨.none, none⟩, fifo := [], dropped := 0 }
    captureRing := RingWriter.reset
    trips := Vector.replicate 2 TripSet.reset
    post := { items := [], waiting := [] }
    completionRing := RingWriter.reset
    interrupt := { mask := 0, holdoff := 0, completion := ⟨0, none, false⟩, capture := ⟨0, none, false⟩ }
    outside := { level := 0, hold := 0 }
    choices := 0 }

end Sys2Proof.Machine
end

