-- ==== Sys2Proof/Machine/Operands.lean ====
section
/-! DEFINITION. The formats of chapter 12: reading fields of records, vectors and the setup block from
bytes, writing completion and capture records as bytes, and the checks on records (R147, R148),
vector attributes (R34) and setup blocks (R171). -/

namespace Sys2Proof.Machine

/-! ### Little-endian fields (R177) -/

/-- The number a list of bytes holds, least significant byte first (R177). -/
def leValue : List Byte → Nat
  | [] => 0
  | b :: bs => b.toNat + 256 * leValue bs

/-- The bytes `off` to `off + size - 1`. -/
def byteRange {n : Nat} (off size : Nat) (d : Bytes n) : List Byte := (d.toList.drop off).take size

/-- The `w`-bit field at offset `off` (R177). -/
def field {n : Nat} (w off : Nat) (d : Bytes n) : BitVec w := BitVec.ofNat w (leValue (byteRange off (w / 8) d))

/-- Whether the bytes `off` to `off + size - 1` are all 0. -/
def zeroBytes {n : Nat} (off size : Nat) (d : Bytes n) : Bool := (byteRange off size d).all (· == 0#8)

/-- `k` bytes of a number, least significant byte first (R177). -/
def leBytes : Nat → Nat → List Byte
  | 0, _ => []
  | k + 1, v => BitVec.ofNat 8 v :: leBytes k (v / 256)

/-- The bytes of a field, least significant byte first (R177). -/
def fieldBytes {w : Nat} (v : BitVec w) : List Byte := leBytes (w / 8) v.toNat

/-- A 1-bit field. -/
def bit (b : Bool) : Nat := if b then 1 else 0

/-! ### Kind codes and status codes (R185) -/

def kindBurst : Byte := 1
def kindRetune : Byte := 2
def kindMark : Byte := 3
def kindRelease : Byte := 4
def kindResume : Byte := 5
def kindTrip : Byte := 8
def kindSkip : Byte := 9
def kindFetchFault : Byte := 10

/-- The status codes (R185). -/
def Status.code : Status → Byte
  | .ok => 0 | .mismatch => 1 | .mismatchStop => 2 | .gateTimeout => 3 | .badRecord => 4
  | .badVector => 5 | .loadFault => 6 | .pinConflict => 7 | .claimTimeout => 8 | .groupTimeout => 9
  | .groupMismatch => 10 | .aborted => 11 | .tripped => 12 | .tripDiscard => 13 | .superseded => 14
  | .badPace => 15 | .stillTripped => 16 | .fetchFault => 17 | .skipped => 18

/-- The fault causes (R185). -/
def FaultCause.code : FaultCause → Nat
  | .none => 0 | .completionWrite => 1 | .captureWrite => 2

/-! ### Submission records (R178) -/

/-- The kind code at offset 0. -/
def recordKind (r : Bytes 64) : Byte := field 8 0 r

/-- The tag at offsets 4 to 7. -/
def recordTag (r : Bytes 64) : Word := field 32 4 r

/-- The start modes of a BURST (R178). Codes above 2 are refused by R147; the model reads them as GROUP. -/
inductive StartMode where
  | immediate | atTime | group
  deriving DecidableEq, Repr

/-- The loop modes of a BURST (R178). Codes above 2 are refused by R147; the model reads them as BOUNCE. -/
inductive LoopMode where
  | none | wrap | bounce
  deriving DecidableEq, Repr

/-- The fields of a BURST record (R178). -/
structure Burst where
  flags : Byte
  startCode : Byte
  loopCode : Byte
  vectorAddress : Addr
  startTime : Tick
  groupNumber : Byte
  memberByte : Byte
  waitLimit : Word
  strobeOffset : Half
  gateLimit : Half
  drive : Pins
  sense : Pins
  care : Pins
  vectorCount : Nat
  loopStart : Nat
  loopEnd : Nat
  passes : Nat
  paceInteger : Half
  paceFraction : Byte
  deriving DecidableEq, Repr

/-- The BURST table of R178. -/
def burstOf (r : Bytes 64) : Burst :=
  { flags := field 8 1 r
    startCode := field 8 2 r
    loopCode := field 8 3 r
    vectorAddress := field 64 8 r
    startTime := field 48 16 r
    groupNumber := field 8 22 r
    memberByte := field 8 23 r
    waitLimit := field 32 24 r
    strobeOffset := field 16 28 r
    gateLimit := field 16 30 r
    drive := field 48 32 r
    sense := field 48 38 r
    care := field 48 44 r
    vectorCount := (field 16 50 r).toNat
    loopStart := (field 16 52 r).toNat
    loopEnd := (field 16 54 r).toNat
    passes := (field 16 56 r).toNat
    paceInteger := field 16 58 r
    paceFraction := field 8 60 r }

namespace Burst

def stopOnFail (b : Burst) : Bool := b.flags.getLsbD 0
def holdPins (b : Burst) : Bool := b.flags.getLsbD 1
def waitPins (b : Burst) : Bool := b.flags.getLsbD 2
def compareInvert (b : Burst) : Bool := b.flags.getLsbD 3
def timedGroup (b : Burst) : Bool := b.flags.getLsbD 4

def startMode (b : Burst) : StartMode :=
  if b.startCode = 0 then .immediate else if b.startCode = 1 then .atTime else .group

def loopMode (b : Burst) : LoopMode :=
  if b.loopCode = 0 then .none else if b.loopCode = 1 then .wrap else .bounce

/-- The group of a GROUP burst: 0 to 7 in a valid record (R147). -/
def group (b : Burst) : GroupId := (b.groupNumber.extractLsb' 0 3).toFin

/-- The member mask: the low four bits of its byte (R177). -/
def member (b : Burst) : LaneMask := b.memberByte.extractLsb' 0 4

/-- The pin set of the burst's claim: drive mask and sense mask together (R13). -/
def pinSet (b : Burst) : Pins := b.drive ||| b.sense

/-- Blocks the burst needs: ceil(N/16) (R24). -/
def blockNeed (b : Burst) : Nat := (b.vectorCount + 15) / 16

/-- The wait limit as a span of ticks (6.2.1). -/
def waitSpan (b : Burst) : Tick := b.waitLimit.setWidth 48

/-! #### The play sequence (R75 to R79) -/

/-- Whether the sequence has passes: a looping mode and P of 1 or more (R75). -/
def hasPasses (b : Burst) : Bool := b.loopMode != .none && b.passes != 0

/-- Plays of one pass (R76, R77). -/
def passLength (b : Burst) : Nat :=
  match b.loopMode with
  | .none => 0
  | .wrap => b.loopEnd - b.loopStart + 1
  | .bounce => 2 * (b.loopEnd - b.loopStart)

/-- Plays of the lead-in: all N without passes, else vectors 0 to Le (R75). -/
def leadIn (b : Burst) : Nat := if b.hasPasses then b.loopEnd + 1 else b.vectorCount

/-- The length of the play sequence (R79). -/
def sequenceLength (b : Burst) : Nat :=
  if b.hasPasses then b.vectorCount + b.passes * b.passLength else b.vectorCount

/-- The vector index of place `r` (from 0) of a pass (R76, R77). -/
def passIndex (b : Burst) (r : Nat) : Nat :=
  match b.loopMode with
  | .none => 0
  | .wrap => b.loopStart + r
  | .bounce =>
    if r < b.loopEnd - b.loopStart then b.loopEnd - 1 - r
    else b.loopStart + 1 + (r - (b.loopEnd - b.loopStart))

/-- The vector index of play `j`, counted from 1 (R75 to R77). -/
def playIndex (b : Burst) (j : Nat) : Nat :=
  if j ≤ b.leadIn then j - 1
  else if j - b.leadIn ≤ b.passes * b.passLength then
    b.passIndex ((j - b.leadIn - 1) % b.passLength)
  else b.leadIn + (j - b.leadIn - 1 - b.passes * b.passLength)

/-- The pass number of play `j`, counted from 1 (R78). -/
def passNumber (b : Burst) (j : Nat) : Nat :=
  if j ≤ b.leadIn then 0
  else if j - b.leadIn ≤ b.passes * b.passLength then (j - b.leadIn - 1) / b.passLength + 1
  else b.passes

/-- Whether the vector boundary of play `j` is a pass boundary: the first play of a pass (R78). -/
def passBoundary (b : Burst) (j : Nat) : Bool :=
  b.hasPasses && b.leadIn < j && j - b.leadIn ≤ b.passes * b.passLength
    && (j - b.leadIn - 1) % b.passLength == 0

/-- The vector indexes of one pass, in order (R76, R77). -/
def passList (b : Burst) : List Nat :=
  match b.loopMode with
  | .none => []
  | .wrap => List.range' b.loopStart (b.loopEnd - b.loopStart + 1)
  | .bounce =>
    (List.range' b.loopStart (b.loopEnd - b.loopStart)).reverse
      ++ List.range' (b.loopStart + 1) (b.loopEnd - b.loopStart)

/-- The play sequence written out as R75 gives it: lead-in, passes, tail. The play engine does not use
it; `playIndex` computes one play of it. -/
def playSequence (b : Burst) : List Nat :=
  if b.hasPasses then
    List.range (b.loopEnd + 1) ++ (List.replicate b.passes b.passList).flatten
      ++ List.range' (b.loopEnd + 1) (b.vectorCount - (b.loopEnd + 1))
  else List.range b.vectorCount

end Burst

/-- The tests of R147 on a record of kind 1. -/
def burstValid (r : Bytes 64) : Bool :=
  let b := burstOf r
  b.flags.extractLsb' 5 3 == 0
  && zeroBytes 61 3 r
  && b.startCode.toNat ≤ 2
  && b.loopCode.toNat ≤ 2
  && (1 ≤ b.vectorCount && b.vectorCount ≤ 1024)
  && b.vectorAddress.extractLsb' 0 4 == 0
  && b.pinSet != 0
  && b.care &&& ~~~b.sense == 0
  && (b.loopMode == .none || (b.loopStart ≤ b.loopEnd && b.loopEnd < b.vectorCount))
  && (b.loopMode != .bounce || b.loopStart != b.loopEnd)
  && (b.loopMode != .none || b.passes == 0)
  && 2 ≤ b.paceInteger.toNat
  && b.paceFraction.toNat ≤ 31
  && b.strobeOffset.toNat < b.paceInteger.toNat
  && ((!b.waitPins && b.startMode != .group) || b.waitLimit != 0)
  && (if b.startMode == .group then b.groupNumber.toNat ≤ 7 else b.groupNumber == 0)
  && (if b.startMode == .group then b.memberByte != 0 && b.memberByte.extractLsb' 4 4 == 0
      else b.memberByte == 0)
  && (!b.timedGroup || b.startMode == .group)

/-- The pace integer of a RETUNE record (R178). -/
def retunePaceInteger (r : Bytes 64) : Half := field 16 58 r

/-- The pace fraction of a RETUNE record (R178). -/
def retunePaceFraction (r : Bytes 64) : Byte := field 8 60 r

/-- The start mode byte of a MARK record: 0 IMMEDIATE, 1 AT_TIME (R178). -/
def markStartCode (r : Bytes 64) : Byte := field 8 2 r

/-- The time of a MARK record (R178). -/
def markTime (r : Bytes 64) : Tick := field 48 16 r

/-- The tests of R148 on a RETUNE: I at least 2, F at most 31, every unused byte 0. -/
def retuneValid (r : Bytes 64) : Bool :=
  2 ≤ (retunePaceInteger r).toNat && (retunePaceFraction r).toNat ≤ 31
  && zeroBytes 1 3 r && zeroBytes 8 50 r && zeroBytes 61 3 r

/-- The tests of R148 on a MARK: start mode at most 1, every unused byte 0. -/
def markValid (r : Bytes 64) : Bool :=
  (markStartCode r).toNat ≤ 1 && zeroBytes 1 1 r && zeroBytes 3 1 r && zeroBytes 8 8 r && zeroBytes 22 42 r

/-- The tests of R148 on a RELEASE or a RESUME: every byte other than kind and tag is 0. -/
def bareValid (r : Bytes 64) : Bool := zeroBytes 1 3 r && zeroBytes 8 56 r

/-- Whether a record passes the checks of its kind; unknown kind codes never do (R147, R148). -/
def recordValid (r : Bytes 64) : Bool :=
  let k := recordKind r
  if k = kindBurst then burstValid r
  else if k = kindRetune then retuneValid r
  else if k = kindMark then markValid r
  else if k = kindRelease then bareValid r
  else if k = kindResume then bareValid r
  else false

/-! ### Vectors (R179) -/

/-- The vector at offset `off` of a block of bytes. -/
def vecAt {n : Nat} (off : Nat) (d : Bytes n) : Vec :=
  { drive := field 48 off d, expect := field 48 (off + 6) d, attributes := field 32 (off + 12) d }

/-- The 16 bytes of a vector. -/
def Vec.bytes (v : Vec) : List Byte := fieldBytes v.drive ++ fieldBytes v.expect ++ fieldBytes v.attributes

def Vec.hold (v : Vec) : Nat := (v.attributes.extractLsb' 0 10).toNat
def Vec.strobe (v : Vec) : Bool := v.attributes.getLsbD 10
def Vec.gate (v : Vec) : Bool := v.attributes.getLsbD 11
def Vec.gateOnDiff (v : Vec) : Bool := v.attributes.getLsbD 12

/-- The Loader's test of a vector's attributes, for a burst with gate limit `g` (R34). -/
def Vec.valid (g : Half) (v : Vec) : Bool :=
  v.attributes.extractLsb' 13 19 == 0
  && !(v.gate && (v.strobe || v.hold != 0))
  && !(v.gate && g == 0)

/-! ### Records the part writes (R180, R181) -/

/-- The detail field: the skip count, or the trip's lanes, set number and fire count (R180). -/
def Detail.word : Detail → Word
  | .none => 0
  | .skip count => count
  | .trip lanes set count =>
    lanes.setWidth 32 ||| (BitVec.ofNat 32 set.val <<< 8) ||| (count.setWidth 32 <<< 16)

/-- The 48 bytes of a completion record with phase bit `phase` (R180). -/
def Completion.bytes (phase : Bool) (c : Completion) : List Byte :=
  fieldBytes c.tag
  ++ [c.lane, c.kind, c.status.code,
      BitVec.ofNat 8 (bit phase + 2 * bit c.late + 4 * bit c.pinsHeld + 8 * bit c.grouped)]
  ++ fieldBytes c.stats.vectors ++ fieldBytes c.stats.mismatches
  ++ fieldBytes c.stats.firstIndex ++ fieldBytes c.stats.firstPass ++ fieldBytes c.stats.firstObserved
  ++ [0, 0] ++ fieldBytes c.startTime ++ [0, 0] ++ fieldBytes c.endTime ++ [0, 0]
  ++ fieldBytes c.detail.word

/-- The 16 bytes of a capture record with phase bit `phase` (R180). -/
def CaptureRecord.bytes (phase : Bool) (c : CaptureRecord) : List Byte :=
  let owner := match c.owner with
    | some l => 2 + 4 * l.val
    | none => 0
  fieldBytes c.time
  ++ [BitVec.ofNat 8 c.pin.val, BitVec.ofNat 8 (bit c.level + owner + 128 * bit phase)]
  ++ fieldBytes c.dropped ++ fieldBytes c.previous

/-! ### The setup block (R182) -/

/-- The ring descriptors, in the order of the block: the submission rings of lanes 0 to 3, the completion
ring, the capture ring. -/
def setupRingOffset (k : Nat) : Nat := 16 * k

def setupBase (k : Nat) (d : Bytes 256) : Addr := field 64 (setupRingOffset k) d
def setupEntries (k : Nat) (d : Bytes 256) : Nat := (field 16 (setupRingOffset k + 8) d).toNat
def setupIrqByte (d : Bytes 256) : Byte := field 8 96 d
def setupCompletionThreshold (d : Bytes 256) : Byte := field 8 97 d
def setupCaptureThreshold (d : Bytes 256) : Byte := field 8 98 d
def setupHoldoff (d : Bytes 256) : Half := field 16 100 d
def setupInterval (d : Bytes 256) : Half := field 16 102 d
def setupTripOffset (i : Nat) : Nat := 112 + 16 * i
def setupTripPins (i : Nat) (d : Bytes 256) : Pins := field 48 (setupTripOffset i) d
def setupTripPattern (i : Nat) (d : Bytes 256) : Pins := field 48 (setupTripOffset i + 6) d
def setupTripLaneByte (i : Nat) (d : Bytes 256) : Byte := field 8 (setupTripOffset i + 12) d
def setupTripLanes (i : Nat) (d : Bytes 256) : LaneMask := (setupTripLaneByte i d).extractLsb' 0 4
def setupTripEnable (i : Nat) (d : Bytes 256) : Byte := field 8 (setupTripOffset i + 13) d
def setupPinWord (n : Nat) (d : Bytes 256) : Half := field 16 (144 + 2 * n) d

/-- The safe level of a pin entry: 0 LOW, 1 HIGH, 2 FLOAT (R182). A 3 is refused by R171. -/
def pinWordSafe (w : Half) : Level :=
  if w.extractLsb' 0 2 = 0 then .low else if w.extractLsb' 0 2 = 1 then .high else .float

/-- The qualifier count of a pin entry (R182). -/
def pinWordCount (w : Half) : Nat := (w.extractLsb' 2 4).toNat

/-- The watch setting of a pin entry (R182). -/
def pinWordWatch (w : Half) : Watch :=
  if w.extractLsb' 6 2 = 0 then .none else if w.extractLsb' 6 2 = 1 then .rise
  else if w.extractLsb' 6 2 = 2 then .fall else .both

/-- A power of two from 16 to 4096 (R171). -/
def ringEntriesOk (n : Nat) : Bool := [16, 32, 64, 128, 256, 512, 1024, 2048, 4096].contains n

/-- Check 2 of R171: every ring's entries. -/
def setupEntriesOk (d : Bytes 256) : Bool := [0, 1, 2, 3, 4, 5].all fun k => ringEntriesOk (setupEntries k d)

/-- Check 3 of R171: submission and completion ring bases multiples of 64, the capture ring base of 16. -/
def setupBasesOk (d : Bytes 256) : Bool :=
  ([0, 1, 2, 3, 4].all fun k => (setupBase k d).extractLsb' 0 6 == 0)
  && (setupBase 5 d).extractLsb' 0 4 == 0

/-- Check 4 of R171: interval and thresholds not 0. -/
def setupNumbersOk (d : Bytes 256) : Bool :=
  setupInterval d != 0 && setupCompletionThreshold d != 0 && setupCaptureThreshold d != 0

/-- Check 5 of R171: an enabled trip set has pins and lanes. -/
def setupTripsOk (d : Bytes 256) : Bool :=
  [0, 1].all fun i => setupTripEnable i d != 1 || (setupTripPins i d != 0 && setupTripLanes i d != 0)

/-- Check 6 of R171: the fields the layout requires to be 0. -/
def setupReservedOk (d : Bytes 256) : Bool :=
  ((List.range 48).all fun n =>
      (setupPinWord n d).extractLsb' 8 8 == 0 && (setupPinWord n d).extractLsb' 0 2 != 3)
  && ([0, 1].all fun i =>
      (setupTripLaneByte i d).extractLsb' 4 4 == 0 && (setupTripEnable i d).toNat ≤ 1
      && zeroBytes (setupTripOffset i + 14) 2 d)
  && (setupIrqByte d).extractLsb' 3 5 == 0
  && ([0, 1, 2, 3, 4, 5].all fun k => zeroBytes (setupRingOffset k + 10) 6 d)
  && zeroBytes 99 1 d && zeroBytes 104 8 d && zeroBytes 240 16 d

/-- The setup error code of a returned setup block read at `address`: the first failing check of R171, or 0
when every check passes. A bus error on the read is code 1. -/
def setupCheck (address : Addr) : ReadReply 256 → Nat
  | .busError => 1
  | .data d =>
    if !setupEntriesOk d then 2
    else if !setupBasesOk d then 3
    else if !setupNumbersOk d then 4
    else if !setupTripsOk d then 5
    else if !setupReservedOk d then 6
    else if address.extractLsb' 0 6 != 0 then 7
    else 0

end Sys2Proof.Machine
end

