-- ==== Sys2Proof/Machine/Ops.lean ====
section
/-! DEFINITION. The named operations every chapter's rules are written over: tables, lanes and pins of
the state, pin values by pin, the Vector Store, time, the bus, free choices of order, and the
completions a lane makes. -/

namespace Sys2Proof.Machine

/-! ### Tables -/

/-- `f` applied to every element of a list with its position, counted from `k`. -/
def mapFrom {α : Type} (f : Nat → α → α) : Nat → List α → List α
  | _, [] => []
  | k, x :: xs => f k x :: mapFrom f (k + 1) xs

theorem mapFrom_length {α : Type} (f : Nat → α → α) (k : Nat) (xs : List α) :
    (mapFrom f k xs).length = xs.length := by
  induction xs generalizing k with
  | nil => rfl
  | cons x xs ih => simp [mapFrom, ih]

/-- `f` applied to every element of a table with its index. -/
def mapTable {α : Type} {n : Nat} (f : Nat → α → α) (v : Vector α n) : Vector α n :=
  ⟨⟨mapFrom f 0 v.toList⟩, by simp [mapFrom_length]⟩

/-- A table with element `i` replaced. -/
def setTable {α : Type} {n : Nat} (v : Vector α n) (i : Fin n) (x : α) : Vector α n := v.set i.val x i.isLt

/-- All lanes, in ascending order. -/
def allLanes : List LaneId := [0, 1, 2, 3]

/-- All groups, in ascending order. -/
def allGroups : List GroupId := [0, 1, 2, 3, 4, 5, 6, 7]

/-- Whether lane `l` is in a lane mask. -/
def inMask (m : LaneMask) (l : LaneId) : Bool := m.getLsbD l.val

/-- The lane mask of one lane. -/
def laneBit (l : LaneId) : LaneMask := BitVec.twoPow 4 l.val

/-- The lanes of a mask, in ascending order. -/
def lanesOf (m : LaneMask) : List LaneId := allLanes.filter (inMask m)

/-- Whether pin `n` is in a pin mask; also the level of pin `n` in a pin value. -/
def pinBit (m : Pins) (n : Nat) : Bool := m.getLsbD n

/-- The pin value whose bit n, for n below `k`, is `f n`. -/
def pinsBelow (f : Nat → Bool) : Nat → Pins
  | 0 => 0
  | k + 1 => pinsBelow f k ||| (if f k then BitVec.twoPow 48 k else 0)

/-- The pin value whose bit n is `f n`. -/
def pinsWhere (f : Nat → Bool) : Pins := pinsBelow f 48

/-! ### Parts of the state -/

/-- Lane `l`. -/
def State.lane (s : State) (l : LaneId) : LaneState := s.lanes.get l

/-- The state with lane `l` replaced. -/
def State.setLane (s : State) (l : LaneId) (x : LaneState) : State := { s with lanes := setTable s.lanes l x }

/-- The state with lane `l`'s active context replaced. -/
def State.setActive (s : State) (l : LaneId) (a : Option Active) : State :=
  s.setLane l { s.lane l with active := a }

/-- The state with lane `l`'s staging queue replaced. -/
def State.setStaging (s : State) (l : LaneId) (q : List Entry) : State :=
  s.setLane l { s.lane l with staging := q }

/-- Group `g`. -/
def State.group (s : State) (g : GroupId) : Group := s.groups.get g

/-- The state with group `g` replaced. -/
def State.setGroup (s : State) (g : GroupId) (x : Group) : State := { s with groups := setTable s.groups g x }

/-- Trip set `i`. -/
def State.trip (s : State) (i : SetId) : TripSet := s.trips.get i

/-- The state with trip set `i` replaced. -/
def State.setTrip (s : State) (i : SetId) (x : TripSet) : State := { s with trips := setTable s.trips i x }

/-- The entry of pin `n`; beyond pin 47 there is none, and the reset entry stands for it. -/
def State.pin (s : State) (n : Nat) : PinEntry := s.pins.toList.getD n PinEntry.reset

/-- Whether the device is ON. -/
def State.on (s : State) : Bool := s.window.device == .on

/-! ### Time (R98 to R100) -/

/-- The due test: a time is due when (now - time) modulo 2^48 is less than 2^47 (R100). -/
def due (time now : Tick) : Bool := (now - time).toNat < 2 ^ 47

/-! ### Free choices of order -/

/-- A list in an order that the numbers of `f` choose; a list of at most one element is as it is. -/
def shuffle {α : Type} (f : Nat → Nat) : List α → List α
  | [] => []
  | [x] => [x]
  | x :: y :: ys =>
    let rest := shuffle f (y :: ys)
    rest.insertIdx (f rest.length % (rest.length + 1)) x

/-- `xs` in a free order (`Config.pick`), and the state with the choice counted. A list of at most one
element needs no choice. -/
def arrange {α : Type} (xs : List α) (s : State) : List α × State :=
  if xs.length ≤ 1 then (xs, s)
  else (shuffle (Config.pick s.choices) xs, { s with choices := s.choices + 1 })

/-! ### The Vector Store (R23, R32, R34)

A list of (address, byte) pairs, address 256 × block + 16 × position + offset, addresses strictly rising,
and no entry equal to what an unlisted address reads as. -/

/-- What a byte of the store that nothing has written reads as. DESIGN CHOICE: the spec gives no contents
after power-on, and R23 says that no such position is ever played (notes/assumptions/6.md). -/
def storeUnwritten : Byte := 0

/-- The byte at address `a`. -/
def storeRead : List Host.Cell → Nat → Byte
  | [], _ => storeUnwritten
  | c :: m, a => if c.1 = a then c.2 else storeRead m a

/-- The store with `v` at address `a`, in the canonical form. -/
def storeWrite : List Host.Cell → Nat → Byte → List Host.Cell
  | [], a, v => if v = storeUnwritten then [] else [(a, v)]
  | c :: m, a, v =>
    if a < c.1 then (if v = storeUnwritten then c :: m else (a, v) :: c :: m)
    else if a = c.1 then (if v = storeUnwritten then m else (a, v) :: m)
    else c :: storeWrite m a v

/-- The canonical form: every address above `low`, strictly rising, no byte as an unlisted one reads. -/
def storeWfFrom : Option Nat → List Host.Cell → Bool
  | _, [] => true
  | low, c :: m =>
    (match low with | none => true | some b => decide (b < c.1)) && c.2 != storeUnwritten
      && storeWfFrom (some c.1) m

/-- The canonical form of the store. -/
def storeWf (m : List Host.Cell) : Bool := storeWfFrom none m

/-- The store with the bytes `bs` written from address `a` on. -/
def storeWriteBytes : List Host.Cell → Nat → List Byte → List Host.Cell
  | m, _, [] => m
  | m, a, b :: bs => storeWriteBytes (storeWrite m a b) (a + 1) bs

/-- The `n` bytes from address `a` on. -/
def storeReadBytes (m : List Host.Cell) (a : Nat) : Nat → List Byte
  | 0 => []
  | n + 1 => storeRead m a :: storeReadBytes m (a + 1) n

/-- The address of position `p` of block `b` (R23, R24). -/
def storeAddress (b p : Nat) : Nat := 256 * b + 16 * p

/-- The vector in position `p` of block `b` (R179). -/
def storeVector (m : List Host.Cell) (b p : Nat) : Vec :=
  let at_ := storeAddress b p
  { drive := BitVec.ofNat 48 (leValue (storeReadBytes m at_ 6))
    expect := BitVec.ofNat 48 (leValue (storeReadBytes m (at_ + 6) 6))
    attributes := BitVec.ofNat 32 (leValue (storeReadBytes m (at_ + 12) 4)) }

/-- The block that holds vector `i` of a burst (R24). -/
def blockOf (blocks : List Nat) (i : Nat) : Option Nat := blocks[i / 16]?

/-- Vector `i` of a burst with the block list `blocks` (R24, R39). -/
def vectorOf (m : List Host.Cell) (blocks : List Nat) (i : Nat) : Option Vec :=
  (blockOf blocks i).map fun b => storeVector m b (i % 16)

/-! ### The bus (R163) -/

/-- The state with an operation put on the bus; its serial number is `s.port.nextOp`. -/
def issueOp (source : BusSource) (address : Addr) (length : Nat) (payload : List Byte) (s : State) : State :=
  { s with port := { s.port with
      bus := s.port.bus ++ [⟨s.port.nextOp, source, address, length, payload⟩]
      nextOp := s.port.nextOp + 1 } }

/-- The state with an operation taken off the bus: the link has returned it. -/
def returnOp (op : OpId) (s : State) : State :=
  { s with port := { s.port with bus := s.port.bus.filter fun o => o.id != op } }

/-! ### Work that follows from an event in the same event

An operation answers the state it leaves and the work that follows in the same event (`Task`), which
`runTasks` of Machine/Lanes.lean carries out, in the order of `nextTask`. -/

/-- Work that follows in the same event: the allocator's look at its head (R29), the examination of the
claim wait list (R50), a granted claim handed to its lane (R46), a port's request of a general entry
(R155), a lane's taking of its front item (R8). -/
inductive Task where
  | look
  | examine
  | granted (lane : LaneId)
  | ask (port : Port)
  | take (lane : LaneId)
  deriving DecidableEq, Repr

/-- What an operation answers: the state it leaves and the work that follows in the same event. -/
abbrev Effect := State × List Task

/-- A second operation on the state the first leaves; the work of both follows. -/
def Effect.andThen (e : Effect) (f : State → Effect) : Effect := ((f e.1).1, e.2 ++ (f e.1).2)

/-- An operation on each lane of a list, one after the other. -/
def eachLane (f : LaneId → State → Effect) : List LaneId → State → Effect
  | [], s => (s, [])
  | l :: ls, s => Effect.andThen (f l s) (eachLane f ls)

/-- The tasks `ts` when `c` holds. -/
def tasksIf (c : Bool) (ts : List Task) : List Task := if c then ts else []

/-! ### Completions (R17, R22, R133) -/

/-- Whether lane `l` owns a pin marked held: the PINS_HELD question (R17, R56). -/
def pinsHeldBy (l : LaneId) (s : State) : Bool := s.pins.toList.any fun p => p.owner == some l && p.held

/-- The number of a lane as a completion's lane byte. -/
def laneByte (l : LaneId) : Byte := BitVec.ofNat 8 l.val

/-- The completion of a RETUNE with tag `tag` that arrived at `arrival`, resolved `status` at `now`
(R22, R112). PINS_HELD is filled when the record is placed. -/
def retuneCompletion (l : LaneId) (tag : Word) (arrival now : Tick) (status : Status) : Completion :=
  { tag := tag, lane := laneByte l, kind := kindRetune, status := status, late := false, pinsHeld := false,
    grouped := false, stats := Stats.zero, startTime := arrival, endTime := now, detail := .none }

/-- A completion joins lane `l`'s retune outbox; the retune port asks when the outbox was empty (R22, R155). -/
def pushOutbox (l : LaneId) (c : Completion) (s : State) : Effect :=
  let lane := s.lane l
  (s.setLane l { lane with outbox := lane.outbox ++ [c] }, tasksIf lane.outbox.isEmpty [.ask (.retune l)])

/-- The shadow pace of lane `l`, if present, is resolved `status` at the present tick (R21, R112). -/
def resolveShadow (l : LaneId) (status : Status) (s : State) : Effect :=
  match (s.lane l).shadow with
  | none => (s, [])
  | some sh =>
    pushOutbox l (retuneCompletion l sh.tag sh.arrival s.timebase status)
      (s.setLane l { s.lane l with shadow := none })

end Sys2Proof.Machine
end

