-- ==== Sys2Proof/Machine/Alloc.lean ====
section
/-! DEFINITION. Chapter 2: the free list, the allocation wait queue, grants, and the load of a staged
BURST (R23 to R39). -/

namespace Sys2Proof.Machine

/-! ### The allocator -/

/-- A free: the block list is appended at the back of the free list (R25, R27). -/
def freeBlocks (blocks : List Nat) (s : State) : State :=
  { s with alloc := { s.alloc with free := s.alloc.free ++ blocks } }

/-- Whether lane `l` has a request outstanding (R7, R28). -/
def hasRequest (l : LaneId) (s : State) : Bool := s.alloc.queue.any (·.lane == l)

/-- The oldest entry of a staging queue in WAIT_BLOCKS (R7). -/
def oldestWaiting (q : List Entry) : Option Entry := q.find? (·.state == .waitBlocks)

/-- Lane `l` places the request of its oldest WAIT_BLOCKS entry at the back of the wait queue, when it has
such an entry and no request outstanding (R7, R28). -/
def placeRequest (l : LaneId) (s : State) : State :=
  if hasRequest l s then s
  else
    match oldestWaiting (s.lane l).staging with
    | none => s
    | some e =>
      { s with alloc := { s.alloc with queue := s.alloc.queue ++ [⟨l, (burstOf e.record).blockNeed⟩] } }

/-- The requests of lane `l` leave the wait queue; the queue closes up (R31). -/
def withdrawRequests (l : LaneId) (s : State) : State :=
  { s with alloc := { s.alloc with queue := s.alloc.queue.filter (·.lane != l) } }

/-- An entry that is granted its blocks: LOADING, with its read 0 eligible (R7, R30, R33). -/
def Entry.grant (blocks : List Nat) (e : Entry) : Entry :=
  { e with state := .loading, blocks := blocks, issued := 0, reading := none }

/-- The oldest WAIT_BLOCKS entry of a staging queue granted `blocks`. -/
def grantOldest (blocks : List Nat) : List Entry → List Entry
  | [] => []
  | e :: q => if e.state = .waitBlocks then e.grant blocks :: q else e :: grantOldest blocks q

/-- The head request is granted: the first `need` blocks of the free list become the block list of the
lane's oldest WAIT_BLOCKS entry, and the lane places its next request (R30). -/
def grantHead (r : AllocRequest) (rest : List AllocRequest) (s : State) : State :=
  placeRequest r.lane
    ({ s with alloc := { free := s.alloc.free.drop r.need, queue := rest } }.setStaging r.lane
      (grantOldest (s.alloc.free.take r.need) (s.lane r.lane).staging))

/-- The allocator looks at the head and grants while the head fits (R29, R30). A request without a
WAIT_BLOCKS entry, which R7 and R31 rule out, leaves the queue without a grant. -/
def allocRun : Nat → State → State
  | 0, s => s
  | n + 1, s =>
    match s.alloc.queue with
    | [] => s
    | r :: rest =>
      if (oldestWaiting (s.lane r.lane).staging).isNone then
        allocRun n { s with alloc := { s.alloc with queue := rest } }
      else if r.need ≤ s.alloc.free.length then allocRun n (grantHead r rest s)
      else s

/-- The number of staging entries of all lanes. -/
def stagedCount (s : State) : Nat := (allLanes.map fun l => (s.lane l).staging.length).sum

/-- The allocator's look at its wait queue. Each turn takes a request off the queue, and at most one new
request follows for each entry granted, so the bound is never reached. -/
def allocLook (s : State) : State := allocRun (s.alloc.queue.length + stagedCount s) s

/-! ### Loading -/

/-- Whether a Loader may issue a read for the entry: LOADING, not marked by a withdrawal, no read in flight,
reads left (R33). -/
def Entry.wantsRead (e : Entry) : Bool :=
  e.state == .loading && e.status.isNone && e.reading.isNone && e.issued < e.blocks.length

/-- Vectors that load read `k` carries: 16, or fewer for the last (R32). -/
def loadVectors (b : Burst) (k : Nat) : Nat := min 16 (b.vectorCount - 16 * k)

/-- The host address of load read `k`, modulo 2^64 (R32). -/
def loadAddress (b : Burst) (k : Nat) : Addr := b.vectorAddress + BitVec.ofNat 64 (256 * k)

/-- The entry after its next read is issued as operation `op` (R33). -/
def Entry.startRead (op : OpId) (e : Entry) : Entry := { e with issued := e.issued + 1, reading := some op }

/-- The first entry that wants a read, with that read started, and the entry as it was; the others as they
are (R33: the oldest entry is served first). -/
def startOldestRead (op : OpId) : List Entry → Option Entry × List Entry
  | [] => (none, [])
  | e :: q =>
    if e.wantsRead then (some e, e.startRead op :: q)
    else ((startOldestRead op q).1, e :: (startOldestRead op q).2)

/-- Lane `l`'s staging entry at `place`. -/
def entryAt (l : LaneId) (place : Nat) (s : State) : Option Entry := (s.lane l).staging[place]?

/-- Lane `l`'s staging entry at `place` replaced. -/
def setEntry (l : LaneId) (place : Nat) (e : Entry) (s : State) : State :=
  s.setStaging l ((s.lane l).staging.set place e)

/-- A FAILED entry with the first status recorded on it; it holds no blocks (R5). -/
def Entry.fail (status : Status) (e : Entry) : Entry :=
  { e with state := .failed, status := some (e.status.getD status), blocks := [], reading := none }

/-- The entry at `place` fails with `status`: its blocks are freed and the allocator looks (R27, R34 to R36).
A status recorded before stands. -/
def failLoad (l : LaneId) (place : Nat) (e : Entry) (status : Status) (s : State) : Effect :=
  (freeBlocks e.blocks (setEntry l place (e.fail status) s), [.look, .take l])

/-- Whether every vector that the returned read carries has valid attributes (R34). -/
def loadValid (e : Entry) (data : Bytes 256) : Bool :=
  (List.range (loadVectors (burstOf e.record) (e.issued - 1))).all fun i =>
    (vecAt (16 * i) data).valid (burstOf e.record).gateLimit

/-- The store with the vectors of the returned read in positions 0 onward of its block (R32, R34). -/
def storeLoad (e : Entry) (data : Bytes 256) (m : List Host.Cell) : List Host.Cell :=
  match e.blocks[e.issued - 1]? with
  | none => m
  | some b =>
    storeWriteBytes m (storeAddress b 0)
      (data.toList.take (16 * loadVectors (burstOf e.record) (e.issued - 1)))

/-- The entry after its read has been accepted: READY after the last one (R34). -/
def Entry.accept (e : Entry) : Entry :=
  { e with reading := none, state := if e.issued < e.blocks.length then .loading else .ready }

/-- A read of an unmarked entry returns with data: written and accepted, or BAD_VECTOR (R34). -/
def acceptLoad (l : LaneId) (place : Nat) (e : Entry) (data : Bytes 256) (s : State) : Effect :=
  if loadValid e data then
    (setEntry l place e.accept { s with store := storeLoad e data s.store }, [.take l])
  else failLoad l place e .badVector s

/-- What a return brings to a LOADING entry. -/
inductive LoadReturn where
  | data (bytes : Bytes 256)
  | busError
  deriving DecidableEq, Repr

/-- The load read in flight of the entry at `place` returns. A marked entry discards whatever it brings, and
its withdrawal status stands (R36); an unmarked one is checked (R34) or fails with LOAD_FAULT (R35). An
entry that has no read in flight is not concerned. -/
def loadReturn (l : LaneId) (place : Nat) (reply : LoadReturn) (s : State) : Effect :=
  match entryAt l place s with
  | none => (s, [])
  | some e =>
    match e.state, e.reading with
    | .loading, some op =>
      match e.status, reply with
      | some st, _ => failLoad l place e st (returnOp op s)
      | none, .data d => acceptLoad l place e d (returnOp op s)
      | none, .busError => failLoad l place e .loadFault (returnOp op s)
    | _, _ => (s, [])

/-! ### Withdrawal of staging entries (R19, R36) -/

/-- What a withdrawal with status `w` makes of a staging entry (R5, R19, R36). -/
def Entry.withdraw (w : Status) (e : Entry) : Entry :=
  match e.state with
  | .waitBlocks | .ready => e.fail w
  | .loading =>
    match e.status, e.reading with
    | some _, _ => e
    | none, none => e.fail w
    | none, some _ => { e with status := some w }
  | .failed => e

/-- The blocks a withdrawal frees of a staging entry at once (R27). -/
def Entry.freedByWithdrawal (e : Entry) : List Nat :=
  match e.state with
  | .waitBlocks | .ready => e.blocks
  | .loading => if e.status.isNone && e.reading.isNone then e.blocks else []
  | .failed => []

/-- The staging queue of lane `l` withdrawn: entries in order, blocks freed oldest entry first, the lane's
request withdrawn (R19, R27, R31). -/
def withdrawStaging (l : LaneId) (w : Status) (s : State) : State :=
  let q := (s.lane l).staging
  withdrawRequests l (freeBlocks (q.flatMap Entry.freedByWithdrawal) (s.setStaging l (q.map (Entry.withdraw w))))

end Sys2Proof.Machine
end

