-- ==== Sys2Proof/Machine/Groups.lean ====
section
/-! DEFINITION. Chapter 4: the Group Table (R58 to R73). -/

namespace Sys2Proof.Machine

/-- What a BURST brings to its group (R60). The start time counts only with the timed flag set. -/
structure Arrival where
  member : LaneMask
  timed : Bool
  startTime : Tick
  waitLimit : Word
  deriving DecidableEq, Repr

/-- The arrival of a GROUP burst (R60). -/
def arrivalOf (b : Burst) : Arrival :=
  { member := b.member, timed := b.timedGroup, startTime := if b.timedGroup then b.startTime else 0,
    waitLimit := b.waitLimit }

/-- Whether an arrival of lane `l` matches a FORMING group (R62). -/
def Group.matches (g : Group) (l : LaneId) (a : Arrival) : Bool :=
  a.member == g.member && inMask g.member l && a.timed == g.timed
    && (!g.timed || a.startTime == g.startTime)

/-- The group an arrival of lane `l` at tick `now` forms (R61). -/
def Group.form (l : LaneId) (a : Arrival) (now : Tick) : Group :=
  { state := .forming, member := a.member, ready := laneBit l, timed := a.timed, startTime := a.startTime,
    firstArrival := now, window := a.waitLimit, deadline := now + a.waitLimit.setWidth 48,
    startTick := 0, late := false }

/-- A FORMING group whose ready mask equals its member mask commits; its start tick and late mark are fixed
from the commit tick (R65). -/
def Group.commit (now : Tick) (g : Group) : Group :=
  if g.state = .forming ∧ g.ready = g.member then
    if g.timed ∧ due g.startTime now = false then
      { g with state := .committed, startTick := g.startTime, late := false }
    else { g with state := .committed, startTick := now + 1, late := g.timed }
  else g

/-- The group's answer to an arrival of lane `l`: none when it refuses with GROUP_MISMATCH, else the group
after it (R61 to R63, R65). -/
def Group.arrive (l : LaneId) (a : Arrival) (now : Tick) (g : Group) : Option Group :=
  match g.state with
  | .idle => if inMask a.member l then some ((Group.form l a now).commit now) else none
  | .forming => if g.matches l a then some ({ g with ready := g.ready ||| laneBit l }.commit now) else none
  | .committed => none

/-- The group after a withdrawal of lane `l`: its ready bit is cleared, and a group that loses its last
ready member goes to IDLE (R69, R70). -/
def Group.leave (l : LaneId) (g : Group) : Group :=
  if g.state ≠ .idle ∧ inMask g.ready l = true then
    if g.ready &&& ~~~laneBit l = 0 then Group.idle else { g with ready := g.ready &&& ~~~laneBit l }
  else g

/-- Lane `l` leaves whatever group it is ready in (R69, R70). -/
def leaveGroups (l : LaneId) (s : State) : State :=
  { s with groups := mapTable (fun _ g => g.leave l) s.groups }

end Sys2Proof.Machine
end

