-- ==== Sys2Proof/Machine/Pins.lean ====
section
/-! DEFINITION. Chapter 3: pin entries, releases, claims and the claim wait list (R40 to R57), and the raw
levels the receivers read (R83, R114). -/

namespace Sys2Proof.Machine

/-- A pin whose output a release or a grant sets to `output`. The output it had before the first such event that
moved it is noted: the pin's own change of that tick stands on it (R119, notes/assumptions/9.md). -/
def PinEntry.moveTo (output : Level) (p : PinEntry) : PinEntry :=
  { p with output := output
           earlier := if output = p.output then p.earlier else some (p.earlier.getD p.output) }

/-- A released pin: no owner, no role, not held, at its safe level (R54). -/
def PinEntry.release (p : PinEntry) : PinEntry :=
  { p.moveTo p.safe with owner := none, role := none, held := false }

/-- Whether lane `l` owns a pin. -/
def ownsAny (l : LaneId) (s : State) : Bool := s.pins.toList.any fun p => p.owner == some l

/-- Every pin lane `l` owns is released (R54). -/
def releaseLane (l : LaneId) (s : State) : State :=
  { s with pins := mapTable (fun _ p => if p.owner = some l then p.release else p) s.pins }

/-- Every pin of the part is released: DISABLE, a device FAULT (R40, R44). -/
def releaseAll (s : State) : State := { s with pins := mapTable (fun _ p => p.release) s.pins }

/-- Every pin lane `l` owns is marked held (R41, R55). -/
def holdLane (l : LaneId) (s : State) : State :=
  { s with pins := mapTable (fun _ p => if p.owner = some l then { p with held := true } else p) s.pins }

/-- The role the masks of a burst give pin `n` of its set (R41). -/
def roleOf (drive sense : Pins) (n : Nat) : Role :=
  if pinBit drive n then (if pinBit sense n then .both else .drive) else .sense

/-- A pin of a granted claim's set: owner and role of the claim, not held; SENSE pins float, the others keep
their output (R46). -/
def PinEntry.claim (l : LaneId) (role : Role) (p : PinEntry) : PinEntry :=
  { p.moveTo (if role = .sense then .float else p.output) with
    owner := some l, role := some role, held := false }

/-- Whether a claim of lane `l` for the pins `set` is compatible: each is unowned or owned by `l` (R45). -/
def compatible (l : LaneId) (set : Pins) (s : State) : Bool :=
  (List.range 48).all fun n =>
    !pinBit set n || (s.pin n).owner == none || (s.pin n).owner == some l

/-- Whether the grant of a claim of lane `l` for the pins `set` releases a pin (R46 step 1). -/
def grantReleases (l : LaneId) (set : Pins) (s : State) : Bool :=
  (List.range 48).any fun n => (s.pin n).owner == some l && !pinBit set n

/-- A granted claim takes effect on the Pin Table (R46). -/
def grantClaim (l : LaneId) (drive sense : Pins) (s : State) : State :=
  { s with pins := mapTable (fun n p =>
      if pinBit (drive ||| sense) n then p.claim l (roleOf drive sense n)
      else if p.owner = some l then p.release else p) s.pins }

/-- A drive update of lane `l`: its DRIVE and BOTH pins take the bits of the value (R43). -/
def driveUpdate (l : LaneId) (value : Pins) (s : State) : State :=
  { s with pins := mapTable (fun n p =>
      if p.owner = some l ∧ (p.role = some .drive ∨ p.role = some .both) then
        { p with output := if pinBit value n then .high else .low }
      else p) s.pins }

/-! ### The claim wait list (R49, R50) -/

/-- One pass over the waiting claims, oldest first: a compatible claim is granted and leaves the list. The
answer is the state with the claims that stay, the lanes granted in order, and whether a grant
released pins (R50). -/
def examinePass : List Claim → State → State × List LaneId × Bool
  | [], s => ({ s with claims := [] }, [], false)
  | c :: cs, s =>
    if compatible c.lane (c.drive ||| c.sense) s then
      let r := examinePass cs (grantClaim c.lane c.drive c.sense s)
      (r.1, c.lane :: r.2.1, grantReleases c.lane (c.drive ||| c.sense) s || r.2.2)
    else
      let r := examinePass cs s
      ({ r.1 with claims := c :: r.1.claims }, r.2.1, r.2.2)

/-- Passes until one in which no grant released pins (R50 step 3). -/
def examinePasses : Nat → State → State × List LaneId
  | 0, s => (s, [])
  | n + 1, s =>
    let r := examinePass s.claims s
    if r.2.2 then
      let r' := examinePasses n r.1
      (r'.1, r.2.1 ++ r'.2)
    else (r.1, r.2.1)

/-- The examination of the claim wait list. A pass that goes on has granted a claim, so the bound is never
reached (R50). -/
def examineClaims (s : State) : State × List LaneId := examinePasses (s.claims.length + 1) s

/-- Lane `l`'s claim leaves the claim wait list (R52, R53). -/
def withdrawClaim (l : LaneId) (s : State) : State := { s with claims := s.claims.filter (·.lane != l) }

/-! ### Raw levels (R83, R114) -/

/-- The level the receiver of pin `n` reads with the pin's output at `output`: what the equipment outside puts on
the pin when the pin floats or the equipment holds it against the drive, else the part's own drive
level (R114). -/
def receive (s : State) (n : Nat) (output : Level) : Bool :=
  if pinBit s.outside.hold n then pinBit s.outside.level n
  else
    match output with
    | .float => pinBit s.outside.level n
    | .high => true
    | .low => false

/-- The raw level of pin `n` (R114). -/
def rawLevel (s : State) (n : Nat) : Bool := receive s n (s.pin n).output

/-- The raw level pin `n` has apart from the releases and grants that the tick's look has yet to see (R119). -/
def ownLevel (s : State) (n : Nat) : Bool := receive s n ((s.pin n).earlier.getD (s.pin n).output)

/-- The raw levels of all pins as a pin value. -/
def rawLevels (s : State) : Pins := pinsWhere (rawLevel s)

/-- The qualified levels of all pins as a pin value. -/
def qualifiedLevels (q : Qualifier) : Pins :=
  pinsWhere fun n => (q.pins.toList.getD n ⟨false, 0⟩).level

end Sys2Proof.Machine
end

