-- ==== Sys2Proof/Machine/Lanes.lean ====
section
/-! DEFINITION. Chapter 1 and section 10.1: taking the front item, claims and group arrivals, retirement,
posting, withdrawal, and the work that follows from an event in the same event (R7 to R22, R154 to R156). -/

namespace Sys2Proof.Machine

/-! ### Retirement (R16) -/

/-- Whether the claim of an active BURST in this context has been granted (R13, R16). -/
def Context.claimGranted : Context → Bool
  | .claiming => false
  | .retiring _ _ => false
  | .groupWait | .timeWait _ _ | .playing _ => true

/-- Whether a BURST that retires with `status` keeps its pins held (R16, R55). -/
def keepsPins (b : Burst) (status : Status) : Bool :=
  b.holdPins && status != .aborted && status != .tripped

/-- The active entry of lane `l`, on entry to RETIRING: status and end time fixed, no blocks (R16). -/
def Active.retire (status : Status) (now : Tick) (a : Active) : Active :=
  { a with context := .retiring status now, blocks := [] }

/-- The active entry `a` of lane `l` enters RETIRING with `status`: its blocks are freed; a BURST whose claim
was granted releases the lane's pins or marks them held; the context port asks (R16). -/
def retire (l : LaneId) (a : Active) (status : Status) (s : State) : Effect :=
  let s1 := freeBlocks a.blocks (s.setActive l (some (a.retire status s.timebase)))
  let freed := tasksIf (!a.blocks.isEmpty) [.look]
  if a.kind = kindBurst ∧ a.context.claimGranted = true then
    if keepsPins (burstOf a.record) status then (holdLane l s1, freed ++ [.ask (.context l)])
    else (releaseLane l s1, freed ++ tasksIf (ownsAny l s) [.examine] ++ [.ask (.context l)])
  else (s1, freed ++ [.ask (.context l)])

/-! ### Claims and group arrivals (R13, R14, R45 to R47, R60) -/

/-- The active entry `a` of lane `l` goes on in context `c`. -/
def setContext (l : LaneId) (a : Active) (c : Context) (s : State) : State :=
  s.setActive l (some { a with context := c })

/-- A BURST whose claim is granted arrives at its group: it waits there, or retires with GROUP_MISMATCH
(R60 to R63). -/
def arriveAtGroup (l : LaneId) (a : Active) (s : State) : Effect :=
  let b := burstOf a.record
  match (s.group b.group).arrive l (arrivalOf b) s.timebase with
  | some g => (setContext l a .groupWait (s.setGroup b.group g), [])
  | none => retire l { a with context := .groupWait } .groupMismatch s

/-- The TIME_WAIT of a BURST whose claim is granted at `now`: the next tick for IMMEDIATE; for AT_TIME the
next tick with LATE when the start time is due, else the start time itself (R14, R101). -/
def startWait (b : Burst) (now : Tick) : Context :=
  if b.startMode = .atTime then
    if due b.startTime now then .timeWait (now + 1) true else .timeWait b.startTime false
  else .timeWait (now + 1) false

/-- A granted claim is handed to lane `l`, whose active entry leaves CLAIMING by its start mode (R13). -/
def claimGranted (l : LaneId) (s : State) : Effect :=
  match (s.lane l).active with
  | none => (s, [])
  | some a =>
    match a.context with
    | .claiming =>
      if (burstOf a.record).startMode = .group then arriveAtGroup l a s
      else (setContext l a (startWait (burstOf a.record) s.timebase) s, [])
    | _ => (s, [])

/-- The claim a waiting BURST leaves in the claim wait list (R49, R52). -/
def claimOf (l : LaneId) (b : Burst) (now : Tick) : Claim :=
  { lane := l, drive := b.drive, sense := b.sense, expiry := now + b.waitSpan }

/-- Lane `l`, whose active entry `a` is CLAIMING, presents its claim: granted, refused with PIN_CONFLICT, or
put at the back of the claim wait list (R45 to R47). -/
def presentClaim (l : LaneId) (a : Active) (s : State) : Effect :=
  let b := burstOf a.record
  if compatible l b.pinSet s then
    let e := claimGranted l (grantClaim l b.drive b.sense s)
    (e.1, e.2 ++ tasksIf (grantReleases l b.pinSet s) [.examine])
  else if b.waitPins then ({ s with claims := s.claims ++ [claimOf l b s.timebase] }, [])
  else retire l a .pinConflict s

/-- The examination of the claim wait list; the granted lanes leave CLAIMING in the same event, in a free
order (R50, R64). -/
def examine (s : State) : Effect :=
  let r := examineClaims s
  let o := arrange r.2 r.1
  (o.2, o.1.map .granted)

/-! ### The Post Queue (R154 to R156) -/

/-- The general entries in use (R154). -/
def generalInUse (q : PostQueue) : Nat := q.items.countP fun i => i.source == .general

/-- A record joins the back of the Post Queue. -/
def postRecord (source : PostSource) (c : Completion) (s : State) : State :=
  { s with post := { s.post with items := s.post.items ++ [⟨source, c⟩] } }

/-- The completion of lane `l`'s RETIRING entry `a`, filled when its Post Queue entry is granted (R17, R20). -/
def completionOf (l : LaneId) (a : Active) (status : Status) (endTime : Tick) (s : State) : Completion :=
  { tag := recordTag a.record, lane := laneByte l, kind := a.kind, status := status, late := a.late,
    pinsHeld := pinsHeldBy l s, grouped := a.grouped, stats := a.stats, startTime := a.startTime,
    endTime := endTime
    detail := if status = .skipped then
        (match (s.lane l).skip with | some n => .skip n.count | none => .none) else .none }

/-- The context port of lane `l` is granted an entry: the record is placed, the active context empties, a
SKIP's note is gone, and the lane may take its next front item (R8, R17, R20). -/
def grantContext (l : LaneId) (s : State) : Effect :=
  match (s.lane l).active with
  | none => (s, [])
  | some a =>
    match a.context with
    | .retiring status endTime =>
      (postRecord .general (completionOf l a status endTime s)
        (s.setLane l { s.lane l with active := none,
                                     skip := if status = .skipped then none else (s.lane l).skip }),
       [.take l])
    | _ => (s, [])

/-- The retune port of lane `l` is granted an entry: the oldest outbox record is placed, and the port asks
again while the outbox is not empty (R22, R155). -/
def grantRetune (l : LaneId) (s : State) : Effect :=
  match (s.lane l).outbox with
  | [] => (s, [])
  | c :: rest =>
    (postRecord .general { c with pinsHeld := pinsHeldBy l s } (s.setLane l { s.lane l with outbox := rest }),
     tasksIf (!rest.isEmpty) [.ask (.retune l)])

/-- A grant to a port (R155). -/
def grantPort : Port → State → Effect
  | .context l => grantContext l
  | .retune l => grantRetune l

/-- A port asks for a general entry: granted at once when fewer than 14 are in use and nobody waits, else it
joins the back of the waiting-poster list (R155). -/
def askPort (p : Port) (s : State) : Effect :=
  if generalInUse s.post < Config.generalEntries ∧ s.post.waiting = [] then grantPort p s
  else ({ s with post := { s.post with waiting := s.post.waiting ++ [p] } }, [])

/-- A general entry has become free: the oldest waiting request, if any, is granted (R156). -/
def grantOldestPoster (s : State) : Effect :=
  match s.post.waiting with
  | [] => (s, [])
  | p :: rest => grantPort p { s with post := { s.post with waiting := rest } }

/-! ### Trip conditions (R11, R128, R137) -/

/-- The condition of a trip set on qualified levels (R128). -/
def TripSet.condition (t : TripSet) (levels : Pins) : Bool := (levels ^^^ t.pattern) &&& t.pinMask == 0

/-- Whether a set covers lane `l`: enabled, its lane mask holds the lane, its condition true (R11, R137). -/
def TripSet.covers (t : TripSet) (levels : Pins) (l : LaneId) : Bool :=
  t.enabled && inMask t.laneMask l && t.condition levels

/-- Whether a set covers lane `l`. -/
def covered (l : LaneId) (s : State) : Bool :=
  (s.trip 0).covers (qualifiedLevels s.qualifier) l || (s.trip 1).covers (qualifiedLevels s.qualifier) l

/-! ### Taking the front item (R8 to R13, R20) -/

/-- An active entry just taken at `now`. -/
def Active.taken_ (kind : Byte) (record : Bytes 64) (blocks : List Nat) (context : Context) (late : Bool)
    (now : Tick) : Active :=
  { kind := kind, record := record, context := context, taken := now, startTime := now, late := late,
    grouped := false, blocks := blocks, stats := Stats.zero }

/-- Lane `l` takes an entry straight to RETIRING with `status`, start and end time the tick of taking. -/
def takeRetiring (l : LaneId) (kind : Byte) (record : Bytes 64) (status : Status) (late : Bool) (s : State) :
    Effect :=
  (s.setActive l (some (Active.taken_ kind record [] (.retiring status s.timebase) late s.timebase)),
   [.ask (.context l)])

/-- A RELEASE is taken: every pin the lane owns is released, status OK (R10, R54). -/
def takeRelease (l : LaneId) (e : Entry) (s : State) : Effect :=
  let r := takeRetiring l e.kind e.record .ok false (releaseLane l s)
  (r.1, tasksIf (ownsAny l s) [.examine] ++ r.2)

/-- A RESUME is taken: a TRIPPED lane with no covering set goes to RUN, with one it completes
STILL_TRIPPED; any other lane is unchanged, status OK (R11). -/
def takeResume (l : LaneId) (e : Entry) (s : State) : Effect :=
  if (s.lane l).run = .tripped then
    if covered l s then takeRetiring l e.kind e.record .stillTripped false s
    else takeRetiring l e.kind e.record .ok false (s.setLane l { s.lane l with run := .run })
  else takeRetiring l e.kind e.record .ok false s

/-- A MARK is taken: IMMEDIATE retires at once; AT_TIME retires with LATE when its time is due, else waits for
it (R12). -/
def takeMark (l : LaneId) (e : Entry) (s : State) : Effect :=
  if markStartCode e.record = 0 then takeRetiring l e.kind e.record .ok false s
  else if due (markTime e.record) s.timebase then takeRetiring l e.kind e.record .ok true s
  else
    (s.setActive l (some (Active.taken_ e.kind e.record [] (.timeWait (markTime e.record) false) false
      s.timebase)), [])

/-- A BURST is taken: it goes to CLAIMING and presents its claim (R13). -/
def takeBurst (l : LaneId) (e : Entry) (s : State) : Effect :=
  let a := Active.taken_ e.kind e.record e.blocks .claiming false s.timebase
  presentClaim l a (s.setActive l (some a))

/-- Lane `l` takes the entry `e`, which has left its staging queue (R9 to R13). A READY entry is a BURST, a
MARK, a RELEASE or a RESUME (R5). -/
def takeEntry (l : LaneId) (e : Entry) (s : State) : Effect :=
  if e.state = .failed then takeRetiring l e.kind e.record (e.status.getD .badRecord) false s
  else if e.kind = kindBurst then takeBurst l e s
  else if e.kind = kindMark then takeMark l e s
  else if e.kind = kindRelease then takeRelease l e s
  else takeResume l e s

/-- The skip note after a staging entry has been taken: its place decreases by 1 while above 0 (R20). -/
def SkipNote.moveUp (n : SkipNote) : SkipNote := { n with place := n.place - 1 }

/-- Lane `l` takes the head of its staging queue when that is READY or FAILED (R8). -/
def takeHead (l : LaneId) (s : State) : Effect :=
  match (s.lane l).staging with
  | [] => (s, [])
  | e :: q =>
    if e.state = .ready ∨ e.state = .failed then
      takeEntry l e (s.setLane l { s.lane l with staging := q, skip := (s.lane l).skip.map SkipNote.moveUp })
    else (s, [])

/-- A record of 64 zero bytes: what stands for an entry no record was read for (R3, R20). -/
def noRecord : Bytes 64 := Vector.replicate 64 0

/-- Lane `l` takes its skip note as a SKIP record; the note stays until the record is placed (R20). -/
def takeSkip (l : LaneId) (s : State) : Effect := takeRetiring l kindSkip noRecord .skipped false s

/-- Lane `l` takes its front item when its active context is empty, its run state is not OFF and the item is
ready: the skip note at place 0, else the head of staging (R8). -/
def takeFront (l : LaneId) (s : State) : Effect :=
  if (s.lane l).active.isSome = true ∨ (s.lane l).run = .off then (s, [])
  else
    match (s.lane l).skip with
    | none => takeHead l s
    | some n => if n.place = 0 then takeSkip l s else takeHead l s

/-! ### Work that follows in the same event -/

/-- One piece of work (R8, R29, R46, R50, R155). -/
def runTask : Task → State → Effect
  | .look, s => (allocLook s, [])
  | .examine, s => examine s
  | .granted l, s => claimGranted l s
  | .ask p, s => askPort p s
  | .take l, s => takeFront l s

/-- Whether a piece of work waits until the rest of the event's work is done: the allocator looks when all frees
of the event have been applied (R27, R29), and the claim wait list is examined when all its releases are
done (R50, R54). -/
def Task.waits : Task → Bool
  | .look | .examine => true
  | .granted _ | .ask _ | .take _ => false

/-- The next piece of an event's work, with those left: what does not wait, first in, first out; then one
examination, whatever number of releases called for it; then one look of the allocator. So takings of the
event come before its examination. They also come before the arrivals of the lanes it grants, where R64 lets
two arrivals at one group be taken in either order (notes/assumptions/4.md, DESIGN CHOICE). -/
def nextTask (ts : List Task) : Option (Task × List Task) :=
  match ts.find? fun t => !t.waits with
  | some t => some (t, ts.erase t)
  | none =>
    if ts.contains .examine then some (.examine, ts.filter fun t => t != .examine)
    else if ts.isEmpty then none
    else some (.look, [])

/-- The work of an event, in the order of `nextTask`; the work each piece calls for joins at the back. The bound
is never reached (`workBound`). -/
def runTasks : Nat → List Task → State → State
  | 0, _, s => s
  | n + 1, ts, s =>
    match nextTask ts with
    | none => s
    | some (t, rest) => runTasks n (rest ++ (runTask t s).2) (runTask t s).1

/-- A bound on the work of one event: every front item taken, outbox record and waiting claim calls for a
bounded number of pieces. -/
def workBound (s : State) (ts : List Task) : Nat :=
  64 + ts.length + 16 * (stagedCount s + (allLanes.map fun l => (s.lane l).outbox.length).sum
    + s.claims.length)

/-- The state after an effect's work. -/
def settle (e : Effect) : State := runTasks (workBound e.1 e.2) e.2 e.1

/-! ### Withdrawal (section 1.6) -/

/-- The active entry of lane `l` is withdrawn with `w`: outside RETIRING it enters RETIRING with `w` at the
present tick, its blocks are freed and the context port asks; in RETIRING its status stands (R18). -/
def withdrawActive (l : LaneId) (w : Status) (s : State) : Effect :=
  match (s.lane l).active with
  | none => (s, [])
  | some a =>
    match a.context with
    | .retiring _ _ => (s, [])
    | _ =>
      (freeBlocks a.blocks (s.setActive l (some (a.retire w s.timebase))), [.ask (.context l)])

/-- Lane `l` is withdrawn with `w`, ABORTED or TRIPPED: its claim leaves the wait list, its ready bit is
cleared, the active entry and then the staging queue are torn down, a shadow pace is resolved and every
pin is released (R18, R19, R31, R53, R69, R70, R111). The work answered is the ports' requests. -/
def withdrawLane (l : LaneId) (w : Status) (s : State) : Effect :=
  let e := withdrawActive l w (leaveGroups l (withdrawClaim l s))
  let e2 := resolveShadow l w (withdrawStaging l w e.1)
  (releaseLane l e2.1, e.2 ++ e2.2)

/-- The work that follows the withdrawal of the lanes `ls`, once all of them have been withdrawn: the ports ask
and the lanes take in a free order, the claim wait list is examined when pins were released, and the
allocator looks (R8, R27, R54, R155, R175). `before` is the state before the withdrawals. -/
def afterWithdrawal (before : State) (ls : List LaneId) (e : Effect) : Effect :=
  let o := arrange (e.2 ++ ls.map .take) e.1
  (o.2, tasksIf (!ls.isEmpty) [.look] ++ tasksIf (ls.any fun l => ownsAny l before) [.examine] ++ o.1)

end Sys2Proof.Machine
end

