-- ==== Sys2Proof/Machine/Fetch.lean ====
section
/-! DEFINITION. Chapter 9: fetch conditions and service order, arrivals and their checks, fetch bus errors and
skipping on ABORT (R140 to R153), with the arrival table of R6. -/

namespace Sys2Proof.Machine

/-! ### Choosing a lane and issuing a read -/

/-- The room report (R4): fewer than 4 places taken, no skip note, an empty retune outbox. -/
def LaneState.room (x : LaneState) : Bool :=
  x.staging.length + (if x.reserved then 1 else 0) < Config.stagingPlaces && x.skip.isNone && x.outbox.isEmpty

/-- Whether the run state lets the Fetch Unit read for the lane (section 1.2). -/
def RunState.fetches : RunState → Bool
  | .run | .tripped => true
  | .off | .stopped | .faulted => false

/-- The fetch conditions of a lane, the device being ON (R144). -/
def LaneState.eligible (x : LaneState) : Bool :=
  x.run.fetches && x.consumer != x.tail && x.fetch == .none && x.room

/-- Whether lane `l` is eligible for a fetch read (R144). -/
def eligible (s : State) (l : LaneId) : Bool := s.on && (s.lane l).eligible

/-- The lanes in the order the Fetch Unit looks at them (R145). -/
def fetchOrder (last : LaneId) : List LaneId := [last + 1, last + 2, last + 3, last]

/-- The lane the Fetch Unit chooses (R145). -/
def chooseLane (s : State) : Option LaneId := (fetchOrder s.lastLane).find? (eligible s)

/-- The host address of slot `k` of a submission ring, modulo 2^64 (R141). -/
def slotAddress (base : Addr) (k : Nat) : Addr := base + BitVec.ofNat 64 (64 * k)

/-- The read of slot C of lane `l` is issued: read live, a staging place reserved, last served (R145). -/
def issueFetch (l : LaneId) (s : State) : State :=
  let x := s.lane l
  let s1 := issueOp (.fetch l) (slotAddress x.base x.consumer) 64 [] s
  { s1.setLane l { x with fetch := .live s.port.nextOp, reserved := true } with lastLane := l }

/-! ### Arrival -/

/-- A staging entry for a record that arrived (R5, R6). -/
def arrivedEntry (r : Bytes 64) (state : EntryState) (status : Option Status) : Entry :=
  { kind := recordKind r, record := r, state := state, status := status, blocks := [], issued := 0,
    reading := none }

/-- The treatment of a record of any kind but RETUNE, by the run state at its arrival (R6). -/
def treatRecord (x : RunState) (r : Bytes 64) : Entry :=
  if x = .run then
    if recordValid r then
      if recordKind r = kindBurst then arrivedEntry r .waitBlocks none else arrivedEntry r .ready none
    else arrivedEntry r .failed (some .badRecord)
  else if recordKind r = kindResume then
    if recordValid r then arrivedEntry r .ready none else arrivedEntry r .failed (some .badRecord)
  else arrivedEntry r .failed (some .tripDiscard)

/-- A record joins the back of lane `l`'s staging queue; a BURST that waits for blocks places its request, and
the lane may take its front item (R4, R6 to R8). -/
def stageRecord (l : LaneId) (e : Entry) (s : State) : Effect :=
  let s1 := s.setStaging l ((s.lane l).staging ++ [e])
  if e.state = .waitBlocks then
    (placeRequest l s1, tasksIf (!hasRequest l s) [.look] ++ [.take l])
  else (s1, [.take l])

/-- The shadow pace of a RETUNE record that arrives at `now` (R107). -/
def shadowOf (r : Bytes 64) (now : Tick) : Shadow :=
  { paceInteger := retunePaceInteger r, paceFraction := retunePaceFraction r, tag := recordTag r, arrival := now }

/-- A valid RETUNE arriving in a RUN lane becomes the shadow pace; one already there is SUPERSEDED (R21). -/
def depositShadow (l : LaneId) (r : Bytes 64) (s : State) : Effect :=
  let e := resolveShadow l .superseded s
  (e.1.setLane l { e.1.lane l with shadow := some (shadowOf r s.timebase) }, e.2)

/-- A RETUNE arrives: shadow pace, or retune outbox with BAD_RECORD or TRIP_DISCARD (R6, R22). -/
def arriveRetune (l : LaneId) (r : Bytes 64) (s : State) : Effect :=
  let now := s.timebase
  if (s.lane l).run = .run then
    if recordValid r then depositShadow l r s
    else pushOutbox l (retuneCompletion l (recordTag r) now now .badRecord) s
  else pushOutbox l (retuneCompletion l (recordTag r) now now .tripDiscard) s

/-- The record of lane `l`'s live read has arrived: C advances, the read and the reserved place are gone, and
the record is staged or routed (R6, R146). -/
def recordArrives (l : LaneId) (r : Bytes 64) (s : State) : Effect :=
  let x := s.lane l
  let s1 := s.setLane l { x with consumer := (x.consumer + 1) % x.entries, fetch := .none, reserved := false }
  if recordKind r = kindRetune then arriveRetune l r s1 else stageRecord l (treatRecord x.run r) s1

/-- The staging entry that stands for a failed read (R3, R149). -/
def fetchFaultEntry : Entry :=
  { kind := kindFetchFault, record := noRecord, state := .failed, status := some .fetchFault, blocks := [],
    issued := 0, reading := none }

/-- The live read of lane `l` returns with a bus error: C holds, the reserved slot becomes a FETCH_FAULT entry,
the lane goes to FAULTED (R3, R149). -/
def fetchFails (l : LaneId) (s : State) : Effect :=
  let x := s.lane l
  (s.setLane l { x with run := .faulted, fetch := .none, reserved := false,
                        staging := x.staging ++ [fetchFaultEntry] }, [.take l])

/-- The fetch read of lane `l` returns: a discarded one is dropped (R151), a live one brings its record (R146)
or its bus error (R149). A lane with no read in flight is not concerned. -/
def fetchReturn (l : LaneId) (reply : ReadReply 64) (s : State) : Effect :=
  match (s.lane l).fetch with
  | .none => (s, [])
  | .discarded op => (returnOp op (s.setLane l { s.lane l with fetch := .none }), [])
  | .live op =>
    match reply with
    | .data r => recordArrives l r (returnOp op s)
    | .busError => fetchFails l (returnOp op s)

/-! ### Skipping on ABORT (R20, R151) -/

/-- The skip count: (T - C) modulo entries (R151). -/
def LaneState.skipCount (x : LaneState) : Nat := (x.tail + x.entries - x.consumer) % x.entries

/-- A count added to a skip count, saturating at 2^32-1 (R20). -/
def addSkip (old : Word) (n : Nat) : Word := BitVec.ofNat 32 (min (old.toNat + n) (2 ^ 32 - 1))

/-- The lane's skip note after an ABORT that skips `n` records (R20). -/
def LaneState.skipNoted (n : Nat) (x : LaneState) : Option SkipNote :=
  if n = 0 then x.skip
  else
    match x.skip with
    | some note => some { note with count := addSkip note.count n }
    | none => some { count := addSkip 0 n, place := x.staging.length }

/-- A live read becomes discarded (R151). -/
def FetchRead.discard : FetchRead → FetchRead
  | .live op => .discarded op
  | f => f

/-- The Fetch Unit's part of an ABORT of a lane, and the lane's run state after it (R151, R175). -/
def LaneState.skipToTail (x : LaneState) : LaneState :=
  { x with run := .stopped, skip := x.skipNoted x.skipCount, fetch := x.fetch.discard, reserved := false,
           consumer := x.tail }

end Sys2Proof.Machine
end

