-- ==== Sys2Proof/Machine/Flags.lean ====
section
/-! DEFINITION. STATUS and the other register reads, the sticky bits, the ring indexes' arithmetic and
the interrupt causes (R124, R160, R164 to R168, R183, R184). -/

namespace Sys2Proof.Machine

/-! ### Rings the part writes (R123, R158, R160) -/

/-- U: the unacknowledged records of a ring (R164). -/
def RingWriter.fill (r : RingWriter) : Nat := (r.producer + r.entries - r.head) % r.entries

/-- A ring is full when (P + 1) modulo entries equals the head (R123, R158). -/
def RingWriter.full (r : RingWriter) : Bool := (r.producer + 1) % r.entries == r.head

/-- Whether a new head lies in the range from the old head to the producer index inclusive, counted modulo
entries (R124, R160). -/
def RingWriter.accepts (r : RingWriter) (head : Nat) : Bool :=
  head < r.entries && (head + r.entries - r.head) % r.entries ≤ r.fill

/-- The producer index after a completed write: one further modulo entries, the phase inverted on a wrap,
no write in flight (R123, R159). -/
def RingWriter.advance (r : RingWriter) : RingWriter :=
  { r with
    producer := (r.producer + 1) % r.entries
    phase := if (r.producer + 1) % r.entries = 0 then !r.phase else r.phase
    writing := none }

/-! ### Holdoff timers (R164) -/

/-- The timer restarted at `now` for a holdoff of `h` microseconds; with h equal to 0 it never runs. -/
def holdoffFrom (h : Half) (now : Tick) : Option Tick :=
  if h = 0 then none else some (now + h.setWidth 48 * Config.ticksPerMicrosecond)

/-- A write of the ring completes; `fill` is U before it (R164). -/
def RingInterrupt.written (h : Half) (now : Tick) (fill : Nat) (i : RingInterrupt) : RingInterrupt :=
  if fill = 0 ∧ h ≠ 0 then { i with timer := holdoffFrom h now } else i

/-- An accepted ACKNOWLEDGE moves the head and leaves `fill` (R164). -/
def RingInterrupt.acknowledged (h : Half) (now : Tick) (fill : Nat) (i : RingInterrupt) : RingInterrupt :=
  { i with timer := if fill = 0 then none else holdoffFrom h now, expired := false }

/-- The timer expires (R164). -/
def RingInterrupt.expire (i : RingInterrupt) : RingInterrupt := { i with timer := none, expired := true }

/-- The cause of a ring: U at least the threshold, or the expired flag with U at least 1 (R165). -/
def RingInterrupt.cause (i : RingInterrupt) (fill : Nat) : Bool :=
  decide (i.threshold.toNat ≤ fill) || (i.expired && decide (1 ≤ fill))

/-! ### Causes and the interrupt line (R165) -/

/-- Whether the ring causes are computed: in ON and FAULT; in OFF and CONFIGURING they read false. -/
def causesLive (s : State) : Bool := s.window.device == .on || s.window.device == .fault

/-- The cause CQ. -/
def causeCQ (s : State) : Bool := causesLive s && s.interrupt.completion.cause s.completionRing.fill

/-- The cause KQ. -/
def causeKQ (s : State) : Bool := causesLive s && s.interrupt.capture.cause s.captureRing.fill

/-- The cause FAULT. -/
def causeFault (s : State) : Bool := s.window.device == .fault

/-- The interrupt line. -/
def irqLine (s : State) : Bool :=
  (s.interrupt.mask.getLsbD 0 && causeCQ s) || (s.interrupt.mask.getLsbD 1 && causeKQ s)
    || (s.interrupt.mask.getLsbD 2 && causeFault s)

/-! ### Register reads (R166, R167, R183) -/

/-- The device state's code. -/
def DeviceState.code : DeviceState → Nat
  | .off => 0 | .configuring => 1 | .on => 2 | .fault => 3

/-- A run state's code. -/
def RunState.code : RunState → Nat
  | .off => 0 | .run => 1 | .tripped => 2 | .stopped => 3 | .faulted => 4

/-- The STATUS word. -/
def statusWord (s : State) : Word :=
  BitVec.ofNat 32
    (s.window.device.code
      + 2 ^ 2 * (s.lane 0).run.code + 2 ^ 5 * (s.lane 1).run.code + 2 ^ 8 * (s.lane 2).run.code
      + 2 ^ 11 * (s.lane 3).run.code
      + 2 ^ 14 * bit (causeCQ s) + 2 ^ 15 * bit (causeKQ s) + 2 ^ 16 * bit (causeFault s)
      + 2 ^ 17 * bit s.window.indexError + 2 ^ 18 * bit s.window.refused + 2 ^ 19 * bit s.window.setupError
      + 2 ^ 20 * s.window.setupCode + 2 ^ 24 * s.window.faultCause.code)

/-- What a read of a register returns. A read changes nothing. -/
def readReg (s : State) : Reg → Word
  | .ident => Config.identWord
  | .control => s.window.control
  | .status => statusWord s
  | .setupLo => s.window.setupAddress.extractLsb' 0 32
  | .setupHi => s.window.setupAddress.extractLsb' 32 32
  | .submit | .acknowledge | .unused => 0

/-- What a read at an offset of the window returns (R166, R183). -/
def readAt (s : State) (offset : Nat) : Option Word := (regAt offset).map (readReg s)

/-! ### Sticky bits (R167) -/

/-- REFUSED set. -/
def setRefused (s : State) : State := { s with window := { s.window with refused := true } }

/-- INDEX_ERROR set. -/
def setIndexError (s : State) : State := { s with window := { s.window with indexError := true } }

/-- The sticky bits written with 1 cleared; clearing SETUP_ERROR also sets the setup error code to 0 (R167). -/
def clearSticky (w : Word) (x : Window) : Window :=
  { x with
    indexError := x.indexError && !w.getLsbD 17
    refused := x.refused && !w.getLsbD 18
    setupError := x.setupError && !w.getLsbD 19
    setupCode := if w.getLsbD 19 then 0 else x.setupCode }

/-- The command word CONTROL reads back after an accepted command: its code, and for ABORT and START its
lane mask (R168). -/
def controlWord (code : Byte) (mask : LaneMask) : Word := code.setWidth 32 ||| (mask.setWidth 32 <<< 8)

/-- An accepted command is recorded in CONTROL (R168). -/
def acceptCommand (code : Byte) (mask : LaneMask) (s : State) : State :=
  { s with window := { s.window with control := controlWord code mask } }

end Sys2Proof.Machine
end

