-- ==== Sys2Proof/Machine/HostPort.lean ====
section
/-! DEFINITION. Section 10.4: the Host Port's turns and the requests they issue (R123, R158, R163). -/

namespace Sys2Proof.Machine

/-- The place of a requester in the cyclic order (R163). -/
def Requester.index : Requester → Nat
  | .fetch => 0
  | .loader l => 1 + l.val
  | .completion => 5
  | .capture => 6

/-- The requesters in the cyclic order (R163). -/
def requesters : List Requester :=
  [.fetch, .loader 0, .loader 1, .loader 2, .loader 3, .completion, .capture]

/-- The requesters in the order they are looked at after `last` was served; `last` itself comes last (R163). -/
def turnOrder (last : Requester) : List Requester :=
  requesters.drop (last.index + 1) ++ requesters.take (last.index + 1)

/-- Whether a ring's writer has a write it could issue: device ON, a record, room, no write in flight
(R123, R158). -/
def RingWriter.ready (on empty : Bool) (r : RingWriter) : Bool := on && !empty && !r.full && r.writing.isNone

/-- Whether a requester presents (R163). -/
def presents (s : State) : Requester → Bool
  | .fetch => allLanes.any (eligible s)
  | .loader l => s.on && (s.lane l).staging.any Entry.wantsRead
  | .completion => s.completionRing.ready s.on s.post.items.isEmpty
  | .capture => s.captureRing.ready s.on s.capture.fifo.isEmpty

/-- The Loader of lane `l` issues the next read of its oldest entry that wants one (R32, R33). -/
def issueLoad (l : LaneId) (s : State) : State :=
  let r := startOldestRead s.port.nextOp (s.lane l).staging
  match r.1 with
  | none => s
  | some e =>
    issueOp (.load l) (loadAddress (burstOf e.record) e.issued)
      (16 * loadVectors (burstOf e.record) e.issued) [] (s.setStaging l r.2)

/-- The host address of slot `k` of the completion ring (R158). -/
def completionAddress (base : Addr) (k : Nat) : Addr := base + BitVec.ofNat 64 (48 * k)

/-- The host address of slot `k` of the capture ring (R123). -/
def captureAddress (base : Addr) (k : Nat) : Addr := base + BitVec.ofNat 64 (16 * k)

/-- The Completion Writer issues the write of the Post Queue's head (R158). -/
def issueCompletion (s : State) : State :=
  match s.post.items with
  | [] => s
  | i :: _ =>
    let r := s.completionRing
    { issueOp .completion (completionAddress r.base r.producer) 48 (i.record.bytes r.phase) s with
      completionRing := { r with writing := some s.port.nextOp } }

/-- The capture writer issues the write of the FIFO's head (R123). -/
def issueCapture (s : State) : State :=
  match s.capture.fifo with
  | [] => s
  | c :: _ =>
    let r := s.captureRing
    { issueOp .capture (captureAddress r.base r.producer) 16 (c.bytes r.phase) s with
      captureRing := { r with writing := some s.port.nextOp } }

/-- A requester's turn: its request is issued, and it is the last served (R163). -/
def issueTurn (r : Requester) (s : State) : State :=
  let s1 := match r with
    | .fetch => (match chooseLane s with | none => s | some l => issueFetch l s)
    | .loader l => issueLoad l s
    | .completion => issueCompletion s
    | .capture => issueCapture s
  { s1 with port := { s1.port with lastServed := r } }

/-- Turns until no requester presents, at most `n` (R163). -/
def turns : Nat → State → State
  | 0, s => s
  | n + 1, s =>
    match (turnOrder s.port.lastServed).find? (presents s) with
    | none => s
    | some r => turns n (issueTurn r s)

/-- The Host Port's turns of one event. Each turn puts a lane, an entry or a writer in flight, so the bound is
never reached (R163). -/
def hostPort (s : State) : State := turns (8 + stagedCount s) s

end Sys2Proof.Machine
end

