-- ==== Sys2Proof/Machine/Trip.lean ====
section
/-! DEFINITION. Chapter 8: arming, firing and the TRIP record (R127 to R139). -/

namespace Sys2Proof.Machine

/-- Whether an enabled set is evaluated when the pins of `changed` change (R128). -/
def TripSet.concerned (t : TripSet) (changed : Pins) : Bool := t.enabled && changed &&& t.pinMask != 0

/-- Whether the evaluation of a set fires it (R130). -/
def TripSet.fires (t : TripSet) (changed levels : Pins) : Bool :=
  t.concerned changed && t.armed && t.condition levels

/-- A set after an evaluation: false arms it, true leaves it or, by firing, disarms it (R130). -/
def TripSet.evaluate (changed levels : Pins) (t : TripSet) : TripSet :=
  if t.concerned changed then { t with armed := !t.condition levels } else t

/-- A set at the entry tick of ON: an enabled set whose condition is false arms (R129). -/
def TripSet.enter (levels : Pins) (t : TripSet) : TripSet :=
  { t with armed := t.enabled && !t.condition levels }

/-- A fire count one higher, saturating at 65535 (R134). -/
def countUp (n : Half) : Half := if n = BitVec.allOnes 16 then n else n + 1

/-- The TRIP record of set `i` (R133). -/
def tripCompletion (i : SetId) (lanes : LaneMask) (count : Half) (first last : Tick) : Completion :=
  { tag := 0, lane := 15, kind := kindTrip, status := .tripped, late := false, pinsHeld := false,
    grouped := false, stats := Stats.zero, startTime := first, endTime := last,
    detail := .trip lanes i count }

/-- A queued TRIP record with a further firing merged into it (R134). -/
def Completion.mergeTrip (lanes : LaneMask) (now : Tick) (c : Completion) : Completion :=
  match c.detail with
  | .trip old i count => { c with endTime := now, detail := .trip (old ||| lanes) i (countUp count) }
  | _ => c

/-- A carry with a further firing merged into it; an absent carry becomes present (R134). -/
def mergeCarry (lanes : LaneMask) (now : Tick) : Option Carry → Carry
  | none => { count := 1, lanes := lanes, first := now, last := now }
  | some c => { c with count := countUp c.count, lanes := c.lanes ||| lanes, last := now }

/-- Whether set `i`'s reserved slot is occupied (R133). -/
def slotTaken (i : SetId) (q : PostQueue) : Bool := q.items.any fun x => x.source == .trip i

/-- Whether set `i`'s record is in writing: it is the head, and a completion write is in flight (R133, R158). -/
def slotInWriting (i : SetId) (s : State) : Bool :=
  s.completionRing.writing.isSome && (s.post.items.head?.map PostItem.source) == some (.trip i)

/-- The firing of set `i` reaches its TRIP record: placed, merged into the queued record, or taken into the
carry (R133, R134). -/
def recordFiring (i : SetId) (lanes : LaneMask) (s : State) : State :=
  let now := s.timebase
  if slotTaken i s.post then
    if slotInWriting i s then s.setTrip i { s.trip i with carry := some (mergeCarry lanes now (s.trip i).carry) }
    else
      { s with post := { s.post with items := s.post.items.map fun x =>
          if x.source = PostSource.trip i then { x with record := x.record.mergeTrip lanes now } else x } }
  else postRecord (.trip i) (tripCompletion i lanes 1 now now) s

/-- Whether a firing acts on a lane in this run state (R131). -/
def RunState.tripActs : RunState → Bool
  | .run | .faulted | .tripped => true
  | .stopped | .off => false

/-- The lanes of a mask that a firing acts on (R131). -/
def tripLanes (m : LaneMask) (s : State) : List LaneId := (lanesOf m).filter fun l => (s.lane l).run.tripActs

/-- The lane mask of a list of lanes. -/
def maskOf (ls : List LaneId) : LaneMask := ls.foldr (fun l m => laneBit l ||| m) 0

/-- A firing acts on lane `l`: withdrawn with TRIPPED, run state TRIPPED (R2, R131, R132). -/
def tripLane (l : LaneId) (s : State) : Effect :=
  let e := withdrawLane l .tripped s
  (e.1.setLane l { e.1.lane l with run := .tripped }, e.2)

/-- Set `i` fires: its lanes are acted on, in a free order, and its TRIP record is placed or merged. The work
answered is the ports' requests (R131 to R135). -/
def fireSet (i : SetId) (s : State) : Effect :=
  let ls := tripLanes (s.trip i).laneMask s
  let o := arrange ls s
  let e := eachLane tripLane o.1 o.2
  (recordFiring i (maskOf ls) e.1, e.2)

/-- The sets of a list fire one after the other (R130). -/
def fireSets : List SetId → State → Effect
  | [], s => (s, [])
  | i :: rest, s => Effect.andThen (fireSet i s) (fireSets rest)

/-- The lanes a list of sets acts on. -/
def firedLanes (sets : List SetId) (s : State) : List LaneId :=
  allLanes.filter fun l => sets.any fun i => inMask (s.trip i).laneMask l && (s.lane l).run.tripActs

/-- The completion of the write of set `i`'s record: a present carry becomes a new TRIP record at the back of
the Post Queue (R134). -/
def placeCarry (i : SetId) (s : State) : State :=
  match (s.trip i).carry with
  | none => s
  | some c =>
    postRecord (.trip i) (tripCompletion i c.lanes c.count c.first c.last)
      (s.setTrip i { s.trip i with carry := none })

end Sys2Proof.Machine
end

