-- ==== Sys2Proof/Machine/Qualify.lean ====
section
/-! DEFINITION. Chapter 7: the Input Qualifier and the Capture Monitor (R113 to R122), and the hand-over of
qualified changes to the Trip Unit and the Capture Monitor (R116). -/

namespace Sys2Proof.Machine

/-- The qualifier's state of pin `n`. -/
def Qualifier.pin (q : Qualifier) (n : Nat) : QualifiedPin := q.pins.toList.getD n ⟨false, 0⟩

/-- A pin whose qualifier count is 0 takes its raw level (R114). -/
def QualifiedPin.follow (raw : Bool) (_ : QualifiedPin) : QualifiedPin := ⟨raw, 0⟩

/-- A sample of a pin with qualifier count `c` (R115). -/
def QualifiedPin.sample (c : Nat) (raw : Bool) (p : QualifiedPin) : QualifiedPin :=
  if raw = p.level then { p with stability := 0 }
  else if p.stability < c then { p with stability := p.stability + 1 }
  else ⟨raw, 0⟩

/-- A pin with qualifier count `c` after a look that finds `raw`: an unfiltered pin follows, a filtered one is
sampled when the look falls on the sample grid (R114, R115). -/
def QualifiedPin.look (c : Nat) (sampling : Bool) (raw : Bool) (p : QualifiedPin) : QualifiedPin :=
  if c = 0 then p.follow raw else if sampling then p.sample c raw else p

/-- The pins after one look at the receivers; `sampling` says whether it falls on the sample grid. A release or a
grant of a pin that has been taken in the tick does not take the pin's own change of the tick away: when the
level apart from it gives a change, that change is taken, and the pin's move is a later one. Else the look reads
the level as it stands (R114 to R116, R119). -/
def lookPins (sampling : Bool) (s : State) : Vector QualifiedPin 48 :=
  mapTable (fun n p =>
    let own := p.look (s.pin n).qualifierCount sampling (ownLevel s n)
    if own.level != p.level then own else p.look (s.pin n).qualifierCount sampling (rawLevel s n)) s.qualifier.pins

/-- The pins whose qualified level differs between two states of the qualifier. -/
def changedPins (old new : Qualifier) : Pins := qualifiedLevels old ^^^ qualifiedLevels new

/-- Whether the present tick is the next tick of the sample grid. -/
def sampleDue (s : State) : Bool := s.qualifier.nextSample == s.timebase

/-- The qualifier after a look: pins as looked at, the grid moved on when the look sampled (R113, R115). -/
def lookQualifier (s : State) : Qualifier :=
  { s.qualifier with
    pins := lookPins (sampleDue s) s
    nextSample := if sampleDue s then s.qualifier.nextSample + s.qualifier.interval.setWidth 48
                  else s.qualifier.nextSample
    looked := true }

/-! ### Capture (R117 to R121) -/

/-- Whether a change to `level` is watched (R118). -/
def Watch.sees : Watch → Bool → Bool
  | .none, _ => false
  | .rise, level => level
  | .fall, level => !level
  | .both, _ => true

/-- The pending drop count one higher, saturating at 65535 (R121). -/
def Capture.drop (c : Capture) : Capture := { c with dropped := countUp c.dropped }

/-- A record formed: it joins the FIFO with the pending drop count, or is dropped and counted (R121). -/
def Capture.push (r : CaptureRecord) (c : Capture) : Capture :=
  if c.fifo.length < Config.captureDepth then
    { c with fifo := c.fifo ++ [{ r with dropped := c.dropped }], dropped := 0 }
  else c.drop

/-- A qualified change of pin `n` to `level` at `now`, with the owner the Pin Table gives, reaches the Capture
Monitor: a watched one forms a record; the previous-change time becomes `now` (R118). -/
def Capture.change (n : PinId) (level : Bool) (now : Tick) (owner : Option LaneId) (c : Capture) : Capture :=
  let m := c.pins.get n
  let c1 := if m.watch.sees level then
      c.push { time := now, pin := n, level := level, owner := owner, dropped := 0, previous := m.previous.getD 0 }
    else c
  { c1 with pins := setTable c1.pins n { m with previous := some now } }

/-- The changes of one event, in ascending pin number (R120). -/
def captureChanges (changed levels : Pins) (now : Tick) (owner : Nat → Option LaneId) : List PinId → Capture → Capture
  | [], c => c
  | n :: ns, c =>
    captureChanges changed levels now owner ns
      (if pinBit changed n then c.change n (pinBit levels n) now (owner n) else c)

/-- All pins, in ascending order. -/
def allPins : List PinId := List.finRange 48

/-! ### The hand-over (R116) -/

/-- The owner a capture record of the event carries: a firing's releases and the change fall together, and
either may be taken first (R119). `first` says whether the change is. A grant that the examination makes
of those releases follows the record: of the orders R119 leaves open the model takes that one
(notes/assumptions/18.md, DESIGN CHOICE). -/
def ownerSeen (first : Bool) (before after : Option LaneId) : Option LaneId :=
  if before = after then before else if first then before else after

/-- The qualified changes of one event are handed to the Trip Unit and to the Capture Monitor: each set that
looks at a changed pin is evaluated once on the levels as the event leaves them, sets that fire do so in
a free order, and the watched changes form their records (R116, R118, R128, R130). The records are formed
after the firings' releases and before the claims that these let through, with the owner of `ownerSeen`
(notes/assumptions/18.md, DESIGN CHOICE). -/
def handOver (changed : Pins) (s : State) : Effect :=
  let levels := qualifiedLevels s.qualifier
  let firing := ([0, 1] : List SetId).filter fun i => (s.trip i).fires changed levels
  let s1 := { s with trips := mapTable (fun _ t => t.evaluate changed levels) s.trips }
  let o := arrange firing s1
  let lanes := firedLanes firing s1
  let first := Config.pick o.2.choices 0 % 2 == 0
  let e := fireSets o.1 { o.2 with choices := if firing.isEmpty then o.2.choices else o.2.choices + 1 }
  let owner := fun n => ownerSeen first (s1.pin n).owner (e.1.pin n).owner
  afterWithdrawal s1 lanes
    ({ e.1 with capture := captureChanges changed levels s.timebase owner allPins e.1.capture }, e.2)

/-- No pin's earlier output noted: a look has seen the releases and grants up to it
(notes/assumptions/9.md, DESIGN CHOICE). -/
def clearNotes (s : State) : State := { s with pins := mapTable (fun _ p => { p with earlier := none }) s.pins }

/-- One look of the qualifier at the receivers, and the hand-over of all that changed (R113 to R116). -/
def qualifierLook (s : State) : Effect :=
  let q := lookQualifier s
  handOver (changedPins s.qualifier q) { clearNotes s with qualifier := q }

/-- Whether the unfiltered pin `n` has a change of its own to be taken: its level apart from the releases and grants
yet to be seen differs from its qualified level (R114, R119). -/
def ownChange (s : State) (n : Nat) : Bool :=
  (s.pin n).qualifierCount == 0 && ownLevel s n != (s.qualifier.pin n).level

/-- Whether an unfiltered pin has a change to be taken: its raw level differs from its qualified level, or it has a
change of its own (R114, R119). -/
def levelsDiffer (s : State) : Bool :=
  (List.range 48).any fun n =>
    (s.pin n).qualifierCount == 0 && rawLevel s n != (s.qualifier.pin n).level || ownChange s n

/-- The outside levels replaced (R114). -/
def setOutside (level hold : Pins) (s : State) : State := { s with outside := { level := level, hold := hold } }

/-- All pins at the first sample, at the entry tick of ON: the raw level, not a change (R113). -/
def firstSample (s : State) : Vector QualifiedPin 48 :=
  mapTable (fun n _ => ⟨rawLevel s n, 0⟩) s.qualifier.pins

/-- The next tick: the timebase advances by one modulo 2^48 (R98), and the qualifier has not looked in it yet. The
note of a moved pin goes, unless the pin has a change of its own that came after the look: the next tick's look
takes that change as it would have been taken (R119, notes/assumptions/9.md, DESIGN CHOICE). -/
def tick (s : State) : State :=
  { s with
    timebase := s.timebase + 1
    pins := mapTable (fun n p => { p with earlier := if ownChange s n then p.earlier else none }) s.pins
    qualifier := { s.qualifier with looked := false } }

end Sys2Proof.Machine
end

