-- ==== Sys2Proof/Machine/Device.lean ====
section
/-! DEFINITION. Chapter 11 and R162: entry to ON from a setup block, the work that DISABLE and a device FAULT
drop, and reset (R162, R169 to R174). -/

namespace Sys2Proof.Machine

/-- A lane in the OFF condition; ring base, entries, C and T keep their values (R1, R140). -/
def LaneState.dropWork (x : LaneState) : LaneState :=
  { x with run := .off, staging := [], reserved := false, skip := none, active := none, shadow := none,
           outbox := [], fetch := .none }

/-- The work that DISABLE and a device FAULT drop in every block (the tables of R162 and R173). Reads and
writes on the bus stay there, and belong to no request. -/
def dropWork (s : State) : State :=
  { releaseAll s with
    lanes := mapTable (fun _ x => x.dropWork) s.lanes
    alloc := Allocator.reset
    claims := []
    groups := mapTable (fun _ _ => Group.idle) s.groups
    qualifier := { s.qualifier with pins := mapTable (fun _ _ => ⟨false, 0⟩) s.qualifier.pins }
    capture := { pins := mapTable (fun _ _ => ⟨.none, none⟩) s.capture.pins, fifo := [], dropped := 0 }
    captureRing := { s.captureRing with writing := none }
    trips := mapTable (fun _ t => { t with armed := false, carry := none }) s.trips
    post := { items := [], waiting := [] }
    completionRing := { s.completionRing with writing := none }
    interrupt := { s.interrupt with
      completion := { s.interrupt.completion with timer := none }
      capture := { s.interrupt.capture with timer := none } } }

/-- The device goes to FAULT with a cause (R125, R161, R162). -/
def deviceFault (cause : FaultCause) (s : State) : State :=
  let s1 := dropWork s
  { s1 with window := { s1.window with device := .fault, faultCause := cause } }

/-- DISABLE takes the device to OFF: the work is dropped, the expired flags clear, the setup read of
CONFIGURING is abandoned (R164, R170, R173). -/
def deviceOff (s : State) : State :=
  let s1 := dropWork s
  { s1 with
    window := { s1.window with device := .off, setupRead := none }
    interrupt := { s1.interrupt with
      completion := { s1.interrupt.completion with expired := false }
      capture := { s1.interrupt.capture with expired := false } } }

/-- The part after a reset, whichever of the three events it is (R174, R98). The Vector Store keeps its
contents (R23); the queue of commands and the equipment outside are not the part's; the count of free
choices goes on. -/
def resetPart (s : State) : State :=
  { State.reset with pending := s.pending, store := s.store, outside := s.outside, choices := s.choices }

/-! ### Entry to ON (R172) -/

/-- Lane `l` on entry to ON: RUN, empty, ring from its descriptor, C and T 0 (R1, R140). -/
def laneEntry (d : Bytes 256) (l : Nat) : LaneState :=
  { LaneState.reset with run := .run, base := setupBase l d, entries := setupEntries l d }

/-- The entry of pin `n` on entry to ON: its fields from the setup block, unowned, at its new safe level
(R40, R44). -/
def pinEntryOn (d : Bytes 256) (n : Nat) : PinEntry :=
  let w := setupPinWord n d
  { owner := none, role := none, held := false, output := pinWordSafe w, safe := pinWordSafe w,
    qualifierCount := pinWordCount w, watch := pinWordWatch w, earlier := none }

/-- Trip set `i` as its setup entry loads it, unarmed and without a carry (R127). -/
def tripEntry (d : Bytes 256) (i : Nat) : TripSet :=
  { pinMask := setupTripPins i d, pattern := setupTripPattern i d, laneMask := setupTripLanes i d,
    enabled := setupTripEnable i d == 1, armed := false, carry := none }

/-- A ring the part writes on entry to ON: descriptor `k`, indexes 0, phase 1 (R123, R157). -/
def ringEntry (d : Bytes 256) (k : Nat) : RingWriter :=
  { RingWriter.reset with base := setupBase k d, entries := setupEntries k d }

/-- Every block set from the setup block, but for the qualifier and the trip sets (R172). -/
def loadSetup (d : Bytes 256) (s : State) : State :=
  { s with
    window := { s.window with device := .on, faultCause := .none, setupRead := none }
    port := { s.port with lastServed := .capture }
    lastLane := 3
    lanes := mapTable (fun l _ => laneEntry d l) s.lanes
    alloc := Allocator.reset
    pins := mapTable (fun n _ => pinEntryOn d n) s.pins
    claims := []
    groups := mapTable (fun _ _ => Group.idle) s.groups
    capture := { pins := mapTable (fun n _ => ⟨pinWordWatch (setupPinWord n d), none⟩) s.capture.pins,
                 fifo := [], dropped := 0 }
    captureRing := ringEntry d 5
    post := { items := [], waiting := [] }
    completionRing := ringEntry d 4
    interrupt := { mask := (setupIrqByte d).extractLsb' 0 3, holdoff := setupHoldoff d,
                   completion := ⟨setupCompletionThreshold d, none, false⟩,
                   capture := ⟨setupCaptureThreshold d, none, false⟩ } }

/-- The qualifier on entry to ON: Q loaded, every pin at its raw level, the sample grid from this tick (R113). -/
def enterQualifier (d : Bytes 256) (s : State) : State :=
  { s with qualifier :=
      { interval := setupInterval d
        nextSample := s.timebase + (setupInterval d).setWidth 48
        pins := firstSample s
        looked := false } }

/-- The trip sets on entry to ON: loaded, and each enabled set evaluated on the first sample (R127, R129). -/
def enterTrips (d : Bytes 256) (s : State) : State :=
  { s with trips := mapTable (fun i _ => (tripEntry d i).enter (qualifiedLevels s.qualifier)) s.trips }

/-- Entry to ON (R172). The first sample reads the pins at their new safe levels. -/
def enterOn (d : Bytes 256) (s : State) : State := enterTrips d (enterQualifier d (loadSetup d s))

/-- A failed ENABLE: OFF, SETUP_ERROR and its code; no block is loaded (R167, R171). -/
def setupFails (code : Nat) (s : State) : State :=
  { s with window := { s.window with device := .off, setupError := true, setupCode := code, setupRead := none } }

/-- The setup read returns in CONFIGURING (R171, R172). -/
def setupReturn (reply : ReadReply 256) (s : State) : State :=
  match s.window.device, s.window.setupRead with
  | .configuring, some r =>
    let s1 := returnOp r.op s
    match reply with
    | .data d => if setupCheck r.address reply = 0 then enterOn d s1 else setupFails (setupCheck r.address reply) s1
    | .busError => setupFails (setupCheck r.address reply) s1
  | _, _ => s

end Sys2Proof.Machine
end

