-- ==== Sys2Proof/Machine/Commands.lean ====
section
/-! DEFINITION. Meanings of the commands and of reset: ENABLE, DISABLE, RESET, ABORT, START, UNKNOWN_COMMAND,
POWER_ON, RESET_PIN (R98, R168 to R176). -/

namespace Sys2Proof.Machine

/-- The outcome of an event: its effect's work is carried out and the Host Port gives its turns, all in the
same event (R163). -/
def finish (e : Effect) : Host.Outcome State Fault Refusal := .next (hostPort (settle e))

/-- The outcome of an event with no work that follows but the Host Port's turns (R163). -/
def finishState (s : State) : Host.Outcome State Fault Refusal := .next (hostPort s)

/-- A refused command sets REFUSED and changes nothing else (R168). -/
def refuseCommand (s : State) : Host.Outcome State Fault Refusal := finishState (setRefused s)

/-- The setup read is issued at the setup address as it stands, and the device is CONFIGURING (R170). -/
def beginSetup (s : State) : State :=
  let s1 := issueOp .setup s.window.setupAddress 256 [] s
  { s1 with window := { s1.window with
      device := .configuring, setupRead := some { op := s.port.nextOp, address := s.window.setupAddress } } }

/-- ENABLE: accepted in OFF, refused elsewhere (R168, R170). -/
def execEnable (s : State) : Host.Outcome State Fault Refusal :=
  if s.window.device = .off then finishState (beginSetup (acceptCommand 1 0 s)) else refuseCommand s

/-- DISABLE: accepted everywhere; in OFF it changes nothing but the read-back of CONTROL (R168, R173). -/
def execDisable (s : State) : Host.Outcome State Fault Refusal :=
  if s.window.device = .off then finishState (acceptCommand 2 0 s)
  else finishState (deviceOff (acceptCommand 2 0 s))

/-- RESET: accepted everywhere (R168, R174). -/
def execReset (s : State) : Host.Outcome State Fault Refusal := .next (resetPart s)

/-- Whether ABORT acts on a lane in this run state (R175). -/
def RunState.abortActs : RunState → Bool
  | .run | .tripped | .faulted => true
  | .stopped | .off => false

/-- The lanes of a mask that ABORT acts on (R175). -/
def abortLanes (m : LaneMask) (s : State) : List LaneId := (lanesOf m).filter fun l => (s.lane l).run.abortActs

/-- ABORT acts on lane `l`: its work is withdrawn with ABORTED, its unread records are skipped, it goes to
STOPPED (R175). -/
def abortLane (l : LaneId) (s : State) : Effect :=
  let e := withdrawLane l .aborted s
  (e.1.setLane l (e.1.lane l).skipToTail, e.2)

/-- ABORT acts on its lanes in one event, in a free order (R27, R54, R175). -/
def abortWork (m : LaneMask) (s : State) : Effect :=
  let o := arrange (abortLanes m s) s
  afterWithdrawal s (abortLanes m s) (eachLane abortLane o.1 o.2)

/-- ABORT: accepted in ON, refused elsewhere (R168, R175). -/
def execAbort (mask : LaneMask) (s : State) : Host.Outcome State Fault Refusal :=
  if s.window.device = .on then finish (abortWork mask (acceptCommand 4 mask s)) else refuseCommand s

/-- START on one lane: STOPPED and FAULTED go to RUN, every other run state is unchanged (R176). -/
def LaneState.restart (x : LaneState) : LaneState :=
  if x.run = .stopped ∨ x.run = .faulted then { x with run := .run } else x

/-- START acts on the lanes of its mask (R176). -/
def startLanes (m : LaneMask) (s : State) : State :=
  { s with lanes := mapTable (fun l x => if m.getLsbD l then x.restart else x) s.lanes }

/-- START: accepted in ON, refused elsewhere (R168, R176). -/
def execStart (mask : LaneMask) (s : State) : Host.Outcome State Fault Refusal :=
  if s.window.device = .on then finishState (startLanes mask (acceptCommand 5 mask s)) else refuseCommand s

/-- UNKNOWN_COMMAND: a code 0 or 6 to 255 is refused in every device state (R168). A code 1 to 5 is a
command of its own row. -/
def execUnknownCommand (code : Byte) (s : State) : Host.Outcome State Fault Refusal :=
  if unknownCode code then refuseCommand s else .refused .illFormed

/-- POWER_ON: reset (R98, R174). -/
def execPowerOn (s : State) : Host.Outcome State Fault Refusal := .next (resetPart s)

/-- RESET_PIN: reset (R98, R174). -/
def execResetPin (s : State) : Host.Outcome State Fault Refusal := .next (resetPart s)

end Sys2Proof.Machine
end

