-- ==== Sys2Proof/Machine/Play.lean ====
section
/-! DEFINITION. Chapters 5 and 6: the pace, vector boundaries, strobes, gates, the retune at a pass boundary
and the end of play (R74 to R112). -/

namespace Sys2Proof.Machine

/-! ### Pace (R103 to R105) -/

/-- One step of the pace accumulator: the accumulator after it, and whether the period is long (R104). -/
def paceStep (accumulator fraction : Nat) : Nat × Bool :=
  if 32 ≤ accumulator + fraction then (accumulator + fraction - 32, true)
  else (accumulator + fraction, false)

/-- A period begins at `now`: its length is fixed from the pace in effect and the accumulator, and its strobe
lies ahead (R81, R104). -/
def Engine.startPeriod (now : Tick) (e : Engine) : Engine :=
  let p := paceStep e.accumulator e.paceFraction.toNat
  { e with periodStart := now, accumulator := p.1, strobed := false,
           periodLength := e.paceInteger.setWidth 48 + (if p.2 then 1 else 0) }

/-- The engine on entry to PLAYING, before its first vector boundary (R74, R104). -/
def Engine.begin_ (b : Burst) (v : Vec) : Engine :=
  { play := 1, period := 1, periodStart := 0, periodLength := 0, paceInteger := b.paceInteger,
    paceFraction := b.paceFraction, accumulator := 0, gateResolved := false, stop := none, vector := v,
    strobed := false }

/-- The tick at which the period in progress ends (R80). -/
def Engine.periodEnd (e : Engine) : Tick := e.periodStart + e.periodLength

/-- The tick of the strobe of the period in progress (R83). -/
def strobeTick (b : Burst) (e : Engine) : Tick := e.periodStart + b.strobeOffset.setWidth 48

/-! ### Vector boundaries (R82) and RETUNE (R108) -/

/-- The retune mechanism at a pass boundary of lane `l`: a shadow whose I exceeds the strobe offset is
applied and the accumulator restarts, any other is refused with BAD_PACE; the shadow is gone (R108). -/
def retuneEngine (b : Burst) (shadow : Option Shadow) (e : Engine) : Engine :=
  match shadow with
  | none => e
  | some sh =>
    if b.strobeOffset.toNat < sh.paceInteger.toNat then
      { e with paceInteger := sh.paceInteger, paceFraction := sh.paceFraction, accumulator := 0 }
    else e

/-- How the shadow of lane `l` resolves at a pass boundary (R108). -/
def retuneStatus (b : Burst) (shadow : Option Shadow) : Status :=
  match shadow with
  | none => .ok
  | some sh => if b.strobeOffset.toNat < sh.paceInteger.toNat then .ok else .badPace

/-- The vector boundary of play `j` of lane `l`'s burst `a`, whose vector is `v`: vectors applied counts it,
the drive update is sent, a pass boundary looks at the shadow pace, and the first period begins (R82). -/
def vectorBoundary (l : LaneId) (a : Active) (e : Engine) (j : Nat) (v : Vec) (s : State) : Effect :=
  let b := burstOf a.record
  let stats := { a.stats with vectors := a.stats.vectors + 1 }
  let e1 := { e with play := j, period := 1, gateResolved := false, vector := v }
  let s1 := driveUpdate l v.drive s
  let shadow := (s.lane l).shadow
  let e2 := if b.passBoundary j then retuneEngine b shadow e1 else e1
  let r := if b.passBoundary j then resolveShadow l (retuneStatus b shadow) s1 else (s1, [])
  (r.1.setActive l (some { a with context := .playing (e2.startPeriod s.timebase), stats := stats }), r.2)

/-- The vector of play `j` of the active burst `a` (R39, R75). -/
def vectorOfPlay (a : Active) (j : Nat) (s : State) : Option Vec :=
  vectorOf s.store a.blocks ((burstOf a.record).playIndex j)

/-- Lane `l`'s burst `a` enters PLAYING at its first vector boundary, whose vector is `v`: statistics and
accumulator cleared, start time this tick, a pending shadow SUPERSEDED (R15, R110). -/
def enterPlaying (l : LaneId) (a : Active) (late grouped : Bool) (v : Vec) (s : State) : Effect :=
  Effect.andThen (resolveShadow l .superseded s)
    (vectorBoundary l { a with startTime := s.timebase, late := late, grouped := grouped, stats := Stats.zero }
      (Engine.begin_ (burstOf a.record) v) 1 v)

/-! ### Strobes and gates (R83 to R90) -/

/-- The mismatch bits: observed XOR expect, AND care (R84). -/
def mismatchBits (b : Burst) (v : Vec) (observed : Pins) : Pins := (observed ^^^ v.expect) &&& b.care

/-- Whether the strobe of a STROBE vector fails (R84). -/
def strobeFails (b : Burst) (v : Vec) (observed : Pins) : Bool :=
  if b.compareInvert then mismatchBits b v observed == 0 else mismatchBits b v observed != 0

/-- Whether the gate condition of a GATE vector holds (R87). -/
def gateHolds (b : Burst) (v : Vec) (observed : Pins) : Bool :=
  if v.gateOnDiff then mismatchBits b v observed != 0 else mismatchBits b v observed == 0

/-- The statistics after a failed strobe: the count rises, saturating; the first failure is recorded (R85). -/
def Stats.fail (index pass : Nat) (observed : Pins) (x : Stats) : Stats :=
  { x with
    mismatches := if x.mismatches = BitVec.allOnes 32 then x.mismatches else x.mismatches + 1
    firstIndex := if x.mismatches = 0 then BitVec.ofNat 16 index else x.firstIndex
    firstPass := if x.mismatches = 0 then BitVec.ofNat 16 pass else x.firstPass
    firstObserved := if x.mismatches = 0 then observed else x.firstObserved }

/-- What the strobe of a burst finds: the engine and the statistics after it (R84 to R90). -/
def strobeOutcome (b : Burst) (observed : Pins) (e : Engine) (x : Stats) : Engine × Stats :=
  let e1 := { e with strobed := true }
  if e.vector.strobe then
    if strobeFails b e.vector observed then
      ({ e1 with stop := if b.stopOnFail then some .mismatchStop else e1.stop },
       x.fail (b.playIndex e.play) (b.passNumber e.play) observed)
    else (e1, x)
  else if e.vector.gate then
    if gateHolds b e.vector observed then ({ e1 with gateResolved := true }, x)
    else if e.period = b.gateLimit.toNat then ({ e1 with stop := some .gateTimeout }, x)
    else (e1, x)
  else (e1, x)

/-- The observed value: the raw levels of the sense pins, 0 elsewhere (R83). -/
def observedValue (b : Burst) (s : State) : Pins := rawLevels s &&& b.sense

/-- The strobe of lane `l`'s playing burst `a` (R83). -/
def takeStrobe (l : LaneId) (a : Active) (e : Engine) (s : State) : State :=
  let r := strobeOutcome (burstOf a.record) (observedValue (burstOf a.record) s) e a.stats
  s.setActive l (some { a with context := .playing r.1, stats := r.2 })

/-! ### The end of a period (R91) -/

/-- What follows a period's end (R91). -/
inductive PeriodFollow where
  | ends (status : Status)
  | nextPeriod
  | nextPlay
  deriving DecidableEq, Repr

/-- The first case of R91 that applies. -/
def periodFollow (b : Burst) (e : Engine) (x : Stats) : PeriodFollow :=
  match e.stop with
  | some status => .ends status
  | none =>
    if e.vector.gate && !e.gateResolved then .nextPeriod
    else if !e.vector.gate && e.period < e.vector.hold + 1 then .nextPeriod
    else if e.play < b.sequenceLength then .nextPlay
    else .ends (if x.mismatches = 0 then .ok else .mismatch)

/-- Period p+1 of the same play begins (R80, R91). -/
def nextPeriod (l : LaneId) (a : Active) (e : Engine) (s : State) : State :=
  setContext l a (.playing ({ e with period := e.period + 1 }.startPeriod s.timebase)) s

end Sys2Proof.Machine
end

