-- ==== Sys2Proof/Machine/Timed.lean ====
section
/-! DEFINITION. Meanings of the events whose tick comes: claim timeouts, group deadlines and start ticks, marks,
burst starts, strobes, period ends, holdoff expiries (R12, R14, R52, R66, R67, R83, R91, R164). At a tick
that is not its own, such an event does not occur: the state is as it was. -/

namespace Sys2Proof.Machine

/-- The work of several lanes in one event: the ports ask in a free order; one examination of the claim wait list
and one look of the allocator follow all of it (R27, R54, R155). -/
def gather (e : Effect) : Effect :=
  let asks := e.2.filter fun t => t != .look && t != .examine
  let o := arrange asks e.1
  (o.2, tasksIf (e.2.contains .look) [.look] ++ tasksIf (e.2.contains .examine) [.examine] ++ o.1)

/-- Whether lane `l` has a claim in the wait list whose limit expires at the present tick (R52). -/
def claimExpires (l : LaneId) (s : State) : Bool :=
  s.claims.any fun c => c.lane == l && c.expiry == s.timebase

/-- The wait limit of lane `l`'s claim expires: the claim leaves the list, the BURST retires CLAIM_TIMEOUT (R52). -/
def claimTimesOut (l : LaneId) (s : State) : Effect :=
  match (s.lane l).active with
  | none => (withdrawClaim l s, [])
  | some a => if a.context = .claiming then retire l a .claimTimeout (withdrawClaim l s) else (withdrawClaim l s, [])

/-- CLAIM_TIMEOUT (R52). -/
def execClaimTimeout (lane : LaneId) (s : State) : Host.Outcome State Fault Refusal :=
  if claimExpires lane s then finish (claimTimesOut lane s) else finishState s

/-- The active entry of lane `l` while it waits in a group. -/
def waitingMember (s : State) (l : LaneId) : Option Active :=
  match (s.lane l).active with
  | none => none
  | some a => if a.context = .groupWait then some a else none

/-- A ready member fails with GROUP_TIMEOUT (R67). -/
def memberTimesOut (l : LaneId) (s : State) : Effect :=
  match waitingMember s l with
  | none => (s, [])
  | some a => retire l a .groupTimeout s

/-- Whether group `g` is FORMING and its deadline is the present tick (R67). -/
def deadlineDue (g : GroupId) (s : State) : Bool :=
  (s.group g).state == .forming && (s.group g).deadline == s.timebase

/-- Group `g` gives up: every ready member retires GROUP_TIMEOUT, in a free order, and the group is IDLE (R67). All
members release their pins before any of them asks for an entry and takes its next item. R48 lets a claim that a
member so presents be taken before another member's release, too (notes/assumptions/4.md, DESIGN CHOICE). -/
def groupGivesUp (g : GroupId) (s : State) : Effect :=
  let o := arrange (lanesOf (s.group g).ready) (s.setGroup g Group.idle)
  gather (eachLane memberTimesOut o.1 o.2)

/-- GROUP_DEADLINE (R67). -/
def execGroupDeadline (group : GroupId) (s : State) : Host.Outcome State Fault Refusal :=
  if deadlineDue group s then finish (groupGivesUp group s) else finishState s

/-- Whether group `g` is COMMITTED and its start tick is the present tick (R66). -/
def groupStartDue (g : GroupId) (s : State) : Bool :=
  (s.group g).state == .committed && (s.group g).startTick == s.timebase

/-- A ready member starts, GROUPED, with the group's late mark (R66). -/
def memberStarts (late : Bool) (l : LaneId) (s : State) : Effect :=
  match waitingMember s l with
  | none => (s, [])
  | some a =>
    match vectorOfPlay a 1 s with
    | none => (s, [])
    | some v => enterPlaying l a late true v s

/-- Whether lane `l`'s first vector has a store position, if the lane waits in a group. -/
def memberPlayable (s : State) (l : LaneId) : Bool :=
  match waitingMember s l with
  | none => true
  | some a => (vectorOfPlay a 1 s).isSome

/-- Group `g` fires: every ready member enters PLAYING, in a free order, and the group is IDLE (R66). -/
def groupFires (g : GroupId) (s : State) : Effect :=
  let o := arrange (lanesOf (s.group g).ready) (s.setGroup g Group.idle)
  gather (eachLane (memberStarts (s.group g).late) o.1 o.2)

/-- GROUP_START_TICK (R66). -/
def execGroupStartTick (group : GroupId) (s : State) : Host.Outcome State Fault Refusal :=
  if groupStartDue group s then
    if (lanesOf (s.group group).ready).all (memberPlayable s) then finish (groupFires group s)
    else .fault .noStorePosition
  else finishState s

/-- The active entry of lane `l` of kind `kind` whose TIME_WAIT ends at the present tick, with its late mark
(R12, R14, R102). -/
def waitEnds (kind : Byte) (l : LaneId) (s : State) : Option (Active × Bool) :=
  match (s.lane l).active with
  | none => none
  | some a =>
    match a.context with
    | .timeWait t late => if a.kind = kind ∧ t = s.timebase then some (a, late) else none
    | _ => none

/-- MARK_DUE (R12). -/
def execMarkDue (lane : LaneId) (s : State) : Host.Outcome State Fault Refusal :=
  match waitEnds kindMark lane s with
  | none => finishState s
  | some r => finish (retire lane r.1 .ok s)

/-- BURST_START (R14, R15). -/
def execBurstStart (lane : LaneId) (s : State) : Host.Outcome State Fault Refusal :=
  match waitEnds kindBurst lane s with
  | none => finishState s
  | some r =>
    match vectorOfPlay r.1 1 s with
    | none => .fault .noStorePosition
    | some v => finish (enterPlaying lane r.1 r.2 false v s)

/-- The playing burst of lane `l` and its engine. -/
def playingBurst (l : LaneId) (s : State) : Option (Active × Engine) :=
  match (s.lane l).active with
  | none => none
  | some a =>
    match a.context with
    | .playing e => some (a, e)
    | _ => none

/-- Whether the strobe of the period in progress falls at the present tick and has not been taken (R83). -/
def strobeDue (s : State) (r : Active × Engine) : Bool :=
  !r.2.strobed && strobeTick (burstOf r.1.record) r.2 == s.timebase

/-- STROBE (R83 to R90). -/
def execStrobe (lane : LaneId) (s : State) : Host.Outcome State Fault Refusal :=
  match playingBurst lane s with
  | none => finishState s
  | some r => if strobeDue s r then finishState (takeStrobe lane r.1 r.2 s) else finishState s

/-- PERIOD_END (R91 to R93). -/
def execPeriodEnd (lane : LaneId) (s : State) : Host.Outcome State Fault Refusal :=
  match playingBurst lane s with
  | none => finishState s
  | some r =>
    if r.2.periodEnd = s.timebase then
      match periodFollow (burstOf r.1.record) r.2 r.1.stats with
      | .ends status => finish (retire lane r.1 status s)
      | .nextPeriod => finishState (nextPeriod lane r.1 r.2 s)
      | .nextPlay =>
        match vectorOfPlay r.1 (r.2.play + 1) s with
        | none => .fault .noStorePosition
        | some v => finish (vectorBoundary lane r.1 r.2 (r.2.play + 1) v s)
    else finishState s

/-- The holdoff timer of a ring. -/
def ringTimer (s : State) : Ring → Option Tick
  | .completion => s.interrupt.completion.timer
  | .capture => s.interrupt.capture.timer

/-- The holdoff timer of a ring expires: it stops and the expired flag is set (R164). -/
def expireTimer (s : State) : Ring → State
  | .completion => { s with interrupt := { s.interrupt with completion := s.interrupt.completion.expire } }
  | .capture => { s with interrupt := { s.interrupt with capture := s.interrupt.capture.expire } }

/-- HOLDOFF_EXPIRY (R164). -/
def execHoldoffExpiry (ring : Ring) (s : State) : Host.Outcome State Fault Refusal :=
  if ringTimer s ring = some s.timebase then finishState (expireTimer s ring) else finishState s

end Sys2Proof.Machine
end

