-- ==== Sys2Proof/Machine/Levels.lean ====
section
/-! DEFINITION. Meanings of the events on the input side: a raw level change and a tick of the sample grid
(R113 to R116); the timed events of a tick, and when the one look of a tick may be taken among them (R116). -/

namespace Sys2Proof.Machine

/-! ### The part's timed events -/

/-- An event of the part's own that falls at a tick, the looks of the qualifier apart (R12, R14, R52, R66, R67,
R83, R91, R164). -/
inductive TimedEvent where
  | claimTimeout (lane : LaneId)
  | groupDeadline (group : GroupId)
  | groupStartTick (group : GroupId)
  | markDue (lane : LaneId)
  | burstStart (lane : LaneId)
  | strobe (lane : LaneId)
  | periodEnd (lane : LaneId)
  | holdoffExpiry (ring : Ring)
  deriving DecidableEq, Repr

/-- The command of an event. -/
def timedCommand : TimedEvent → Instr
  | .claimTimeout l => .claimTimeout l
  | .groupDeadline g => .groupDeadline g
  | .groupStartTick g => .groupStartTick g
  | .markDue l => .markDue l
  | .burstStart l => .burstStart l
  | .strobe l => .strobe l
  | .periodEnd l => .periodEnd l
  | .holdoffExpiry r => .holdoffExpiry r

/-- The meaning of an event: that of its command. -/
def runTimed : TimedEvent → State → Host.Outcome State Fault Refusal
  | .claimTimeout l, s => execClaimTimeout l s
  | .groupDeadline g, s => execGroupDeadline g s
  | .groupStartTick g, s => execGroupStartTick g s
  | .markDue l, s => execMarkDue l s
  | .burstStart l, s => execBurstStart l s
  | .strobe l, s => execStrobe l s
  | .periodEnd l, s => execPeriodEnd l s
  | .holdoffExpiry r, s => execHoldoffExpiry r s

/-- The part's timed events whose tick is the present one and which have not been taken. -/
def timedEvents (s : State) : List TimedEvent :=
  (allLanes.filter fun l => claimExpires l s).map .claimTimeout
  ++ (allGroups.filter fun g => deadlineDue g s).map .groupDeadline
  ++ (allGroups.filter fun g => groupStartDue g s).map .groupStartTick
  ++ (allLanes.filter fun l => (waitEnds kindMark l s).isSome).map .markDue
  ++ (allLanes.filter fun l => (waitEnds kindBurst l s).isSome).map .burstStart
  ++ (allLanes.filter fun l => (playingBurst l s).any (strobeDue s)).map .strobe
  ++ (allLanes.filter fun l => (playingBurst l s).any fun r => r.2.periodEnd == s.timebase).map .periodEnd
  ++ ([Ring.completion, .capture].filter fun r => ringTimer s r == some s.timebase).map .holdoffExpiry

/-- The element of a list that free choice `n` picks; a list of one needs no choice (notes/assumptions/3.md). -/
def pickOne {α : Type} (xs : List α) (n : Nat) : Option α :=
  if xs.length ≤ 1 then xs.head? else xs[Config.pick n 0 % xs.length]?

/-- One of the events that fall together, in a free order, with the state it is taken in: while a timed event is
left, the choice is counted first, and `events` are those of the state so counted. -/
def chooseEvent {α : Type} (events : State → List α) (s : State) : Option α × State :=
  if (timedEvents s).isEmpty then ((events s).head?, s)
  else
    let s1 := { s with choices := s.choices + 1 }
    (pickOne (events s1) s.choices, s1)

/-- The state after up to `n` timed events of the present tick, as the part takes them by itself while no
command comes and the qualifier does not look: what is left of the tick. -/
def restOfTick : Nat → State → State
  | 0, s => s
  | n + 1, s =>
    match (chooseEvent timedEvents s).1 with
    | none => s
    | some e =>
      match runTimed e (chooseEvent timedEvents s).2 with
      | .next t => restOfTick n t
      | _ => s

/-! ### The tick's one look (R116)

All qualified changes of one tick are handed over in one event, and a pin's change is taken at the tick at which
its raw level changes. So the qualifier looks once a tick, when the raw levels of the tick stand: commands that
wait come first, and so does every timed event of the tick, a drive update or the end of a play among them,
that would still move a pin after the look (notes/assumptions/9.md). -/

/-- Whether the look reads pin `n`: an unfiltered pin, and at a tick of the sample grid any pin (R114, R115). -/
def readByLook (s : State) (n : Nat) : Bool := (s.pin n).qualifierCount == 0 || sampleDue s

/-- The state after a look, its firings and the work that follows (R116). -/
def afterLook (s : State) : State := hostPort (settle (qualifierLook s))

/-- Whether pin `n`, read by the look from `s` to `u`, has its last level of the tick, if `v` is the state at the
tick's end. A pin that has its qualified change at the look may yet be released or granted at the tick: that
raw change is taken later (R119). -/
def levelStands (s u v : State) (n : Nat) : Bool :=
  rawLevel v n == rawLevel u n
  || ((u.qualifier.pin n).level != (s.qualifier.pin n).level
      && ((v.pin n).owner != (u.pin n).owner || (v.pin n).role != (u.pin n).role))

/-- Whether the raw levels of the present tick stand: no command waits, and no timed event of the tick is left,
or after a look now those left move no pin that it reads. An event that the look's own firing prevents is
thus not waited for (R94, R114, R116). -/
def levelsStand (s : State) : Bool :=
  s.pending.isEmpty
  && ((timedEvents s).isEmpty
      || (List.range 48).all fun n =>
          !readByLook s n || levelStands s (afterLook s) (restOfTick Config.tickEventBound (afterLook s)) n)

/-- Whether the qualifier may look now: it has not yet looked in this tick, or the tick's sample has not been
taken, and the raw levels of the tick stand (R116). -/
def lookReady (s : State) : Bool := (!s.qualifier.looked || sampleDue s) && levelsStand s

/-- The tick's look if it may be taken now; if not, nothing yet (R116). -/
def takeLook (s : State) : Effect := if lookReady s then qualifierLook s else (s, [])

/-- Whether the part's own look at unfiltered pins is due: it may be taken now, off the sample grid, and a pin
differs (R114). -/
def levelLookDue (s : State) : Bool := s.on && !sampleDue s && levelsDiffer s && lookReady s

/-- Whether the tick's sample is due and may be taken now (R115, R116). -/
def sampleReady (s : State) : Bool := s.on && sampleDue s && lookReady s

/-- RAW_LEVEL_CHANGE: the outside levels change; while the device is ON the qualifier looks, and each
unfiltered pin that differs has its qualified change at this tick, in the one hand-over of the tick
(R113, R114, R116). -/
def execRawLevelChange (level hold : Pins) (s : State) : Host.Outcome State Fault Refusal :=
  if s.window.device = .on then finish (takeLook (setOutside level hold s))
  else finishState (setOutside level hold s)

/-- QUALIFIER_SAMPLE: at a tick of the sample grid every filtered pin is sampled, and the unfiltered pins are
read with them (R113 to R116). At any other tick it does not occur. -/
def execQualifierSample (s : State) : Host.Outcome State Fault Refusal :=
  if s.window.device = .on ∧ sampleDue s = true then finish (takeLook s) else finishState s

end Sys2Proof.Machine
end

