-- ==== Sys2Proof/Machine/Registers.lean ====
section
/-! DEFINITION. Meanings of the register writes that are no command: SUBMIT, ACKNOWLEDGE, STATUS, SETUP_LO,
SETUP_HI and the writes that change nothing (R124, R142, R160, R166, R167, R184). -/

namespace Sys2Proof.Machine

/-- Lane `l`'s tail replaced (R142). -/
def setTail (l : LaneId) (tail : Nat) (s : State) : State := s.setLane l { s.lane l with tail := tail }

/-- SUBMIT: REFUSED outside ON, INDEX_ERROR for a tail of entries or more, else the tail is replaced (R142). -/
def execSubmit (lane : LaneId) (tail : BitVec 12) (s : State) : Host.Outcome State Fault Refusal :=
  if s.window.device = .on then
    if tail.toNat < (s.lane lane).entries then finishState (setTail lane tail.toNat s)
    else finishState (setIndexError s)
  else finishState (setRefused s)

/-- An accepted ACKNOWLEDGE of the completion ring: H moves, and the holdoff timer follows; a head equal to
the old one changes nothing (R160, R164). -/
def moveCompletionHead (head : Nat) (s : State) : State :=
  if head = s.completionRing.head then s
  else
    let r := { s.completionRing with head := head }
    { s with completionRing := r
             interrupt := { s.interrupt with
               completion := s.interrupt.completion.acknowledged s.interrupt.holdoff s.timebase r.fill } }

/-- ACKNOWLEDGE with ring bit 0: REFUSED outside ON, INDEX_ERROR outside the range from H to P (R160). -/
def execAcknowledgeCompletion (head : BitVec 12) (s : State) : Host.Outcome State Fault Refusal :=
  if s.window.device = .on then
    if s.completionRing.accepts head.toNat then finishState (moveCompletionHead head.toNat s)
    else finishState (setIndexError s)
  else finishState (setRefused s)

/-- An accepted ACKNOWLEDGE of the capture ring: HC moves, and the holdoff timer follows; a head equal to the
old one changes nothing (R124, R164). -/
def moveCaptureHead (head : Nat) (s : State) : State :=
  if head = s.captureRing.head then s
  else
    let r := { s.captureRing with head := head }
    { s with captureRing := r
             interrupt := { s.interrupt with
               capture := s.interrupt.capture.acknowledged s.interrupt.holdoff s.timebase r.fill } }

/-- ACKNOWLEDGE with ring bit 1: REFUSED outside ON, INDEX_ERROR outside the range from HC to PC (R124). -/
def execAcknowledgeCapture (head : BitVec 12) (s : State) : Host.Outcome State Fault Refusal :=
  if s.window.device = .on then
    if s.captureRing.accepts head.toNat then finishState (moveCaptureHead head.toNat s)
    else finishState (setIndexError s)
  else finishState (setRefused s)

/-- STATUS written: the sticky bits written with 1 clear (R167). -/
def execStatusWrite (value : Word) (s : State) : Host.Outcome State Fault Refusal :=
  finishState { s with window := clearSticky value s.window }

/-- SETUP_LO written: the low 32 bits of the setup address, in any device state (R166). -/
def execSetupLoWrite (value : Word) (s : State) : Host.Outcome State Fault Refusal :=
  finishState { s with window := { s.window with
    setupAddress := s.window.setupAddress.extractLsb' 32 32 ++ value } }

/-- SETUP_HI written: the high 32 bits of the setup address, in any device state (R166). -/
def execSetupHiWrite (value : Word) (s : State) : Host.Outcome State Fault Refusal :=
  finishState { s with window := { s.window with
    setupAddress := value ++ s.window.setupAddress.extractLsb' 0 32 } }

/-- A write to IDENT or to offset 1Ch, or with fewer than all four byte enables, changes nothing (R184). Any
other write is a row of its own. -/
def execRegisterWrite (reg : Reg) (byteEnables : BitVec 4) (_value : Word) (s : State) :
    Host.Outcome State Fault Refusal :=
  if idleWrite reg byteEnables then finishState s else .refused .illFormed

end Sys2Proof.Machine
end

