-- ==== Sys2Proof/Machine/Returns.lean ====
section
/-! DEFINITION. Meanings of the Host Port's turn and of everything the link returns (R34 to R36, R38, R123,
R125, R146, R149, R151, R159, R161, R163, R171). -/

namespace Sys2Proof.Machine

/-- SETUP_READ_RETURN (R171, R172). -/
def execSetupReadReturn (reply : ReadReply 256) (s : State) : Host.Outcome State Fault Refusal :=
  finishState (setupReturn reply s)

/-- HOST_PORT_TURN: the Host Port gives turns until no requester presents (R163). Every other event gives
its turns too, so that nothing presents between events; alone, the row finds what a state has left. -/
def execHostPortTurn (s : State) : Host.Outcome State Fault Refusal := .next (hostPort s)

/-- RECORD_ARRIVAL (R146). The return of a discarded read is dropped, whatever it brings (R151). -/
def execRecordArrival (lane : LaneId) (record : Bytes 64) (s : State) : Host.Outcome State Fault Refusal :=
  finish (fetchReturn lane (.data record) s)

/-- FETCH_BUS_ERROR (R149). The return of a discarded read is dropped, whatever it brings (R151). -/
def execFetchBusError (lane : LaneId) (s : State) : Host.Outcome State Fault Refusal :=
  finish (fetchReturn lane .busError s)

/-- Lane `l`'s discarded read returns: its result is dropped, and read in flight becomes none (R151). -/
def discardedReturn (l : LaneId) (s : State) : State :=
  match (s.lane l).fetch with
  | .discarded op => returnOp op (s.setLane l { s.lane l with fetch := .none })
  | _ => s

/-- DISCARDED_FETCH_RETURN (R151). -/
def execDiscardedFetchReturn (lane : LaneId) (s : State) : Host.Outcome State Fault Refusal :=
  finishState (discardedReturn lane s)

/-- LOAD_READ_RETURN (R34; for an entry marked by a withdrawal R36). -/
def execLoadReadReturn (lane : LaneId) (place : Fin 4) (data : Bytes 256) (s : State) :
    Host.Outcome State Fault Refusal :=
  finish (loadReturn lane place.val (.data data) s)

/-- LOAD_FAULT (R35; for an entry marked by a withdrawal R36). -/
def execLoadFault (lane : LaneId) (place : Fin 4) (s : State) : Host.Outcome State Fault Refusal :=
  finish (loadReturn lane place.val .busError s)

/-- The read of a withdrawn entry returns: its data is discarded, its blocks are freed, it becomes FAILED with
the withdrawal status (R36). -/
def withdrawnReturn (l : LaneId) (place : Nat) (s : State) : Effect :=
  match entryAt l place s with
  | none => (s, [])
  | some e =>
    match e.state, e.status, e.reading with
    | .loading, some w, some op => failLoad l place e w (returnOp op s)
    | _, _, _ => (s, [])

/-- WITHDRAWN_LOAD_RETURN (R36). -/
def execWithdrawnLoadReturn (lane : LaneId) (place : Fin 4) (s : State) : Host.Outcome State Fault Refusal :=
  finish (withdrawnReturn lane place.val s)

/-- Whether an operation still has a request of a lane: its fetch read, or an entry's load read. -/
def LaneState.awaits (op : OpId) (x : LaneState) : Bool :=
  x.fetch == .live op || x.fetch == .discarded op || x.staging.any fun e => e.reading == some op

/-- Whether an operation on the bus still has the request that issued it (R163). -/
def awaited (op : OpId) (s : State) : Bool :=
  (s.window.setupRead.map SetupRead.op) == some op || (allLanes.any fun l => (s.lane l).awaits op)
    || s.completionRing.writing == some op || s.captureRing.writing == some op

/-- STALE_RETURN: the operation's request was discarded by DISABLE, a device FAULT or reset; the result is
dropped with no effect, and the operation is off the bus (R38, R163). -/
def execStaleReturn (op : OpId) (s : State) : Host.Outcome State Fault Refusal :=
  if awaited op s then finishState s else finishState (returnOp op s)

/-- The completion ring and its holdoff timer after a completed write (R159, R164). -/
def completionWritten (s : State) : State :=
  { s with
    completionRing := s.completionRing.advance
    interrupt := { s.interrupt with
      completion := s.interrupt.completion.written s.interrupt.holdoff s.timebase s.completionRing.fill } }

/-- What the leaving of a record of `source` frees: a general entry, granted to the oldest waiting poster, or
a set's reserved slot, taken by its carry (R134, R156, R159). -/
def entryFreed (source : PostSource) (s : State) : Effect :=
  match source with
  | .general => grantOldestPoster s
  | .trip i => (placeCarry i s, [])

/-- The completion write completes (R159). -/
def completionDone (s : State) : Effect :=
  match s.completionRing.writing, s.post.items with
  | some op, i :: rest =>
    entryFreed i.source (completionWritten (returnOp op { s with post := { s.post with items := rest } }))
  | _, _ => (s, [])

/-- COMPLETION_WRITE_DONE (R159). Without a write in flight it does not occur. -/
def execCompletionWriteDone (s : State) : Host.Outcome State Fault Refusal := finish (completionDone s)

/-- COMPLETION_WRITE_ERROR: the device goes to FAULT with cause 1 (R161). Without a write in flight it does not
occur. -/
def execCompletionWriteError (s : State) : Host.Outcome State Fault Refusal :=
  match s.completionRing.writing with
  | none => finishState s
  | some op => finishState (deviceFault .completionWrite (returnOp op s))

/-- The capture write completes: the head leaves the FIFO, PC advances, the phase flips on a wrap, and the
holdoff timer follows (R123, R164). -/
def captureDone (s : State) : State :=
  match s.captureRing.writing with
  | none => s
  | some op =>
    let s1 := returnOp op s
    { s1 with
      capture := { s.capture with fifo := s.capture.fifo.tail }
      captureRing := s.captureRing.advance
      interrupt := { s.interrupt with
        capture := s.interrupt.capture.written s.interrupt.holdoff s.timebase s.captureRing.fill } }

/-- CAPTURE_WRITE_DONE (R123). Without a write in flight it does not occur. -/
def execCaptureWriteDone (s : State) : Host.Outcome State Fault Refusal := finishState (captureDone s)

/-- CAPTURE_WRITE_ERROR: the device goes to FAULT with cause 2 (R125). Without a write in flight it does not
occur. -/
def execCaptureWriteError (s : State) : Host.Outcome State Fault Refusal :=
  match s.captureRing.writing with
  | none => finishState s
  | some op => finishState (deviceFault .captureWrite (returnOp op s))

end Sys2Proof.Machine
end

