-- ==== Sys2Proof/Machine/Dispatch.lean ====
section
/-! DEFINITION. The meaning of every row of spec/opcode_table.json, one arm a constructor. -/

namespace Sys2Proof.Machine

def exec (i : Instr) (s : State) : Host.Outcome State Fault Refusal :=
  match i with
  | .enable => Sys2Proof.Machine.execEnable s
  | .disable => Sys2Proof.Machine.execDisable s
  | .reset => Sys2Proof.Machine.execReset s
  | .abort mask => Sys2Proof.Machine.execAbort mask s
  | .start mask => Sys2Proof.Machine.execStart mask s
  | .unknownCommand code => Sys2Proof.Machine.execUnknownCommand code s
  | .submit lane tail => Sys2Proof.Machine.execSubmit lane tail s
  | .acknowledgeCompletion head => Sys2Proof.Machine.execAcknowledgeCompletion head s
  | .acknowledgeCapture head => Sys2Proof.Machine.execAcknowledgeCapture head s
  | .statusWrite value => Sys2Proof.Machine.execStatusWrite value s
  | .setupLoWrite value => Sys2Proof.Machine.execSetupLoWrite value s
  | .setupHiWrite value => Sys2Proof.Machine.execSetupHiWrite value s
  | .registerWrite reg byteEnables value => Sys2Proof.Machine.execRegisterWrite reg byteEnables value s
  | .powerOn => Sys2Proof.Machine.execPowerOn s
  | .resetPin => Sys2Proof.Machine.execResetPin s
  | .rawLevelChange level hold => Sys2Proof.Machine.execRawLevelChange level hold s
  | .qualifierSample => Sys2Proof.Machine.execQualifierSample s
  | .setupReadReturn reply => Sys2Proof.Machine.execSetupReadReturn reply s
  | .hostPortTurn => Sys2Proof.Machine.execHostPortTurn s
  | .recordArrival lane record => Sys2Proof.Machine.execRecordArrival lane record s
  | .fetchBusError lane => Sys2Proof.Machine.execFetchBusError lane s
  | .discardedFetchReturn lane => Sys2Proof.Machine.execDiscardedFetchReturn lane s
  | .loadReadReturn lane place data => Sys2Proof.Machine.execLoadReadReturn lane place data s
  | .loadFault lane place => Sys2Proof.Machine.execLoadFault lane place s
  | .withdrawnLoadReturn lane place => Sys2Proof.Machine.execWithdrawnLoadReturn lane place s
  | .staleReturn op => Sys2Proof.Machine.execStaleReturn op s
  | .completionWriteDone => Sys2Proof.Machine.execCompletionWriteDone s
  | .completionWriteError => Sys2Proof.Machine.execCompletionWriteError s
  | .captureWriteDone => Sys2Proof.Machine.execCaptureWriteDone s
  | .captureWriteError => Sys2Proof.Machine.execCaptureWriteError s
  | .claimTimeout lane => Sys2Proof.Machine.execClaimTimeout lane s
  | .groupDeadline group => Sys2Proof.Machine.execGroupDeadline group s
  | .groupStartTick group => Sys2Proof.Machine.execGroupStartTick group s
  | .markDue lane => Sys2Proof.Machine.execMarkDue lane s
  | .burstStart lane => Sys2Proof.Machine.execBurstStart lane s
  | .strobe lane => Sys2Proof.Machine.execStrobe lane s
  | .periodEnd lane => Sys2Proof.Machine.execPeriodEnd lane s
  | .holdoffExpiry ring => Sys2Proof.Machine.execHoldoffExpiry ring s

end Sys2Proof.Machine
end

