-- ==== Sys2Proof/Machine/Clock.lean ====
section
/-! DEFINITION. What the part does when no command waits: the events of the present tick, and the tick itself
(R98, R99). -/

namespace Sys2Proof.Machine

/-- The part's own events whose tick is the present one and which have not been taken. The tick's look is
QUALIFIER_SAMPLE on the sample grid, and off it, when an unfiltered pin differs, a RAW_LEVEL_CHANGE that
leaves the outside levels as they are (R114 to R116). -/
def tickEvents (s : State) : List Instr :=
  (if sampleReady s then [.qualifierSample] else [])
  ++ (if levelLookDue s then [.rawLevelChange s.outside.level s.outside.hold] else [])
  ++ (timedEvents s).map timedCommand

/-- The event the part takes of itself when no command waits: one of the tick's events in a free order. None when
all events of the tick have been taken. -/
def ownEvent (s : State) : Option Instr × State := chooseEvent tickEvents s

/-- What the part does when no command waits: it takes an event of the present tick, or, when all of them have
been taken, the timebase advances (notes/assumptions/1.md). -/
def idle (s : State) : Host.Outcome State Fault Refusal :=
  match (ownEvent s).1 with
  | some i => exec i (ownEvent s).2
  | none => .next (tick s)

end Sys2Proof.Machine
end

