-- ==== Sys2Proof/Safety.lean ====
section
/-! DEFINITION. What counts as a sound state of the part: the conditions the rules state of every block at
every moment, in the terms the claims use. -/

namespace Sys2Proof.Machine

/-! ### The Vector Store and its blocks (R24, R25) -/

/-- The blocks lane `l` holds: its active entry's, then its staging entries' (R24). -/
def lanesBlocks (x : LaneState) : List Nat :=
  (match x.active with | none => [] | some a => a.blocks) ++ x.staging.flatMap Entry.blocks

/-- The blocks all lanes hold. -/
def heldBlocks (s : State) : List Nat := allLanes.flatMap fun l => lanesBlocks (s.lane l)

/-- An entry that waits for blocks or has failed holds none, and only a BURST holds any (R5). -/
def Entry.blocksFit (e : Entry) : Prop :=
  ((e.state = .waitBlocks ∨ e.state = .failed ∨ e.kind ≠ kindBurst) → e.blocks = [])
    ∧ (e.state = .waitBlocks → e.kind = kindBurst)

/-- A RETIRING entry holds no blocks (R16). -/
def Active.blocksFit (a : Active) : Prop :=
  ∀ status endTime, a.context = .retiring status endTime → a.blocks = []

/-- Every one of the 256 blocks is in the free list or in the block list of exactly one staging entry or
active burst, never both and never twice (R24). -/
def BlocksPartitioned (s : State) : Prop :=
  (s.alloc.free ++ heldBlocks s).Perm (List.range 256)
    ∧ ∀ l, (∀ e ∈ (s.lane l).staging, e.blocksFit) ∧ (∀ a, (s.lane l).active = some a → a.blocksFit)

/-- The Vector Store is in its canonical form. -/
def StoreCanonical (s : State) : Prop := storeWf s.store = true

/-! ### Pins (R40 to R42) -/

/-- A pin is held only if it is owned, has a role exactly while it is owned, outputs its safe level while it
is unowned and FLOAT while it is an owned SENSE pin (R40, R42). -/
def PinEntry.sound (p : PinEntry) : Prop :=
  (p.held = true → p.owner.isSome = true) ∧ (p.role.isSome = p.owner.isSome)
    ∧ (p.owner = none → p.output = p.safe) ∧ (p.role = some .sense → p.output = .float)

/-- Every pin entry is sound. -/
def PinsSound (s : State) : Prop := ∀ p ∈ s.pins.toList, p.sound

/-! ### Groups (R58, R59) -/

/-- The ready mask of every group is contained in its member mask, and a ready lane's active entry is a BURST
of that group in GROUP_WAIT (R59); an IDLE group holds the values R58 gives it. -/
def GroupsSound (s : State) : Prop :=
  ∀ g, ((s.group g).state = .idle → s.group g = Group.idle) ∧ (∀ l, inMask (s.group g).ready l = true → inMask (s.group g).member l = true)
    ∧ ∀ l, inMask (s.group g).ready l = true →
        ∃ a, (s.lane l).active = some a ∧ a.context = .groupWait ∧ (burstOf a.record).group = g

/-! ### The Post Queue (R154) -/

/-- At most 14 records of general posters and at most one of each trip set (R154). -/
def PostBounded (s : State) : Prop :=
  generalInUse s.post ≤ 14 ∧ ∀ i : SetId, (s.post.items.countP fun x => x.source == .trip i) ≤ 1

/-! ### Lanes (R4, R22) -/

/-- A reserved slot stands for a live read, which only a lane in RUN or TRIPPED has; staging entries and the
reserved slot are at most 4; retune outbox and shadow are at most 2 together, and at most 1 while a live read
is in flight (R4, R22, R146). -/
def LaneState.bounded (x : LaneState) : Prop :=
  (x.reserved = true ↔ ∃ op, x.fetch = .live op)
    ∧ (x.reserved = true → x.run = .run ∨ x.run = .tripped)
    ∧ x.staging.length + (if x.reserved then 1 else 0) ≤ 4
    ∧ x.outbox.length + (if x.shadow.isSome then 1 else 0) ≤ (if x.reserved then 1 else 2)

/-- Every lane is within its bounds. -/
def LanesBounded (s : State) : Prop := ∀ l, (s.lane l).bounded

/-! ### Rings the part writes (R123, R157, R158) -/

/-- Indexes below entries, and a write in flight only while the ring is not full (R123, R157, R158). -/
def RingWriter.sound (r : RingWriter) : Prop :=
  1 < r.entries ∧ r.producer < r.entries ∧ r.head < r.entries ∧ (r.writing.isSome = true → r.full = false)

/-- Both rings are sound, and a write in flight carries a record that is still there. -/
def RingsSound (s : State) : Prop :=
  s.completionRing.sound ∧ s.captureRing.sound
    ∧ (s.completionRing.writing.isSome = true → s.post.items ≠ [])
    ∧ (s.captureRing.writing.isSome = true → s.capture.fifo ≠ [])

/-- The capture FIFO holds at most 32 records (R121). -/
def FifoBounded (s : State) : Prop := s.capture.fifo.length ≤ 32

/-! ### The Host Port (R163) -/

/-- No requester presents: every request that could be issued has been. -/
def PortQuiet (s : State) : Prop := ∀ r ∈ requesters, presents s r = false

/-! ### Outside ON (R1, R42, R154, R162, R173) -/

/-- A lane in the OFF condition (R1). -/
def LaneState.empty (x : LaneState) : Prop :=
  x.run = .off ∧ x.staging = [] ∧ x.reserved = false ∧ x.skip = none ∧ x.active = none ∧ x.shadow = none
    ∧ x.outbox = [] ∧ x.fetch = .none

/-- Outside ON every lane is OFF and empty, no pin is owned, no claim waits, every block is free in ascending
order and no allocation waits (R25, R28), every group is IDLE, the Post Queue and the capture FIFO are empty,
no write is in flight and no holdoff timer runs. -/
def OffIsEmpty (s : State) : Prop :=
  s.window.device ≠ .on →
    (∀ l, (s.lane l).empty) ∧ (∀ p ∈ s.pins.toList, p.owner = none) ∧ s.claims = []
      ∧ s.alloc = { free := List.range 256, queue := [] }
      ∧ (∀ g, s.group g = Group.idle) ∧ s.post = ⟨[], []⟩ ∧ s.capture.fifo = []
      ∧ s.completionRing.writing = none ∧ s.captureRing.writing = none
      ∧ s.interrupt.completion.timer = none ∧ s.interrupt.capture.timer = none

/-- The registers: CONTROL reads 0 above its lane mask, the setup error code is 1 to 7 with SETUP_ERROR and 0
without it, a setup read is in flight exactly in CONFIGURING, and the fault cause is 0 in ON and not in
FAULT (R161, R167, R168, R170). -/
def WindowSound (s : State) : Prop :=
  s.window.control.toNat < 4096 ∧ s.window.setupCode ≤ 7
    ∧ (s.window.setupError = true ↔ s.window.setupCode ≠ 0)
    ∧ (s.window.setupRead.isSome = true ↔ s.window.device = .configuring)
    ∧ (s.window.device = .on → s.window.faultCause = .none)
    ∧ (s.window.device = .fault → s.window.faultCause ≠ .none)

/-! ### Qualifier and trips (R2, R113 to R115, R136) -/

/-- The stability count of every pin is at most its qualifier count (R114, R115). -/
def StabilityBounded (s : State) : Prop :=
  ∀ n, n < 48 → (s.qualifier.pin n).stability ≤ (s.pin n).qualifierCount

/-- What a TRIPPED lane may hold in staging: failed entries, loads that a withdrawal has marked, and RESUME
entries (R6, R19). -/
def Entry.trippedFit (e : Entry) : Prop :=
  e.state = .failed ∨ (e.state = .loading ∧ e.status.isSome = true)
    ∨ (e.state = .ready ∧ e.kind = kindResume)

/-- A TRIPPED lane owns no pins, has no claim waiting, no shadow pace, no entry in CLAIMING, GROUP_WAIT,
TIME_WAIT or PLAYING, and no staged work that could reach them (R2, R107). -/
def TrippedIsDrained (s : State) : Prop :=
  ∀ l, (s.lane l).run = .tripped →
    (∀ p ∈ s.pins.toList, p.owner ≠ some l) ∧ (∀ c ∈ s.claims, c.lane ≠ l) ∧ (s.lane l).shadow = none
      ∧ (∀ a, (s.lane l).active = some a → ∃ status endTime, a.context = .retiring status endTime)
      ∧ ∀ e ∈ (s.lane l).staging, e.trippedFit

/-! ### Bursts on their way to play (R24, R39, R74, R97, R103, R104) -/

/-- A staged BURST that has not failed passed its checks, and one with blocks holds as many as its vectors
need (R6, R24). -/
def Entry.burstFit (e : Entry) : Prop :=
  e.state ≠ .failed → e.kind = kindBurst →
    burstValid e.record = true
      ∧ (e.state ≠ .waitBlocks → e.blocks.length = (burstOf e.record).blockNeed)

/-- The play engine of burst `b`: a play of the sequence, an accumulator of 0 to 31, a pace whose I exceeds
the strobe offset, a period of I or I+1 ticks (R74, R80, R81, R103, R104). -/
def Engine.fit (b : Burst) (e : Engine) : Prop :=
  1 ≤ e.play ∧ e.play ≤ b.sequenceLength ∧ 1 ≤ e.period ∧ e.accumulator ≤ 31
    ∧ b.strobeOffset.toNat < e.paceInteger.toNat ∧ e.paceFraction.toNat ≤ 31
    ∧ (e.periodLength = e.paceInteger.setWidth 48 ∨ e.periodLength = e.paceInteger.setWidth 48 + 1)

/-- An active entry outside RETIRING: a BURST is valid and holds its blocks, only a BURST claims, waits in a
group or plays, and its engine is fit (R13, R14, R24, R39). -/
def Active.fit (a : Active) : Prop :=
  match a.context with
  | .retiring _ _ => True
  | .timeWait _ _ =>
    a.kind = kindBurst → burstValid a.record = true ∧ a.blocks.length = (burstOf a.record).blockNeed
  | .claiming | .groupWait =>
    a.kind = kindBurst ∧ burstValid a.record = true ∧ a.blocks.length = (burstOf a.record).blockNeed
  | .playing e =>
    a.kind = kindBurst ∧ burstValid a.record = true ∧ a.blocks.length = (burstOf a.record).blockNeed
      ∧ e.fit (burstOf a.record)

/-- A lane whose staged and active bursts and whose shadow pace are fit. -/
def LaneState.burstsFit (x : LaneState) : Prop :=
  (∀ e ∈ x.staging, e.burstFit) ∧ (∀ a, x.active = some a → a.fit)
    ∧ ∀ sh, x.shadow = some sh → 2 ≤ sh.paceInteger.toNat ∧ sh.paceFraction.toNat ≤ 31

/-- Every request in the allocation wait queue asks the need of its lane's oldest entry that waits for blocks
(R7, R28). -/
def RequestsFit (s : State) : Prop :=
  (s.alloc.queue.map AllocRequest.lane).Nodup
    ∧ ∀ r ∈ s.alloc.queue, ∃ e, oldestWaiting (s.lane r.lane).staging = some e
        ∧ r.need = (burstOf e.record).blockNeed

/-- Every burst of the part is fit to play: no command then meets a vector without a store position. -/
def BurstsFit (s : State) : Prop :=
  (∀ l, (s.lane l).burstsFit ∧ ∀ e ∈ (s.lane l).staging, e.blocksFit) ∧ RequestsFit s

/-! ### What one event leaves as it was -/

/-- A staging entry without its load progress, which the Host Port's turns move on (R33). -/
def Entry.unread (e : Entry) : Entry := { e with issued := 0, reading := none }

/-- A lane without what the Host Port's turns change of it: fetch read, reserved slot, load progress (R33, R145). -/
def LaneState.unread (x : LaneState) : LaneState :=
  { x with fetch := .none, reserved := false, staging := x.staging.map Entry.unread }

/-- The Host Port's turns change nothing from `s` to `t` but the bus, the round-robins, the writes put in flight,
and for each lane the fetch read and the load reads put in flight; what was in flight stays so, and a staging
entry with a read in flight, or one that awaits none, is as it was (R33, R123, R145, R158, R163). -/
structure PortFrame (s t : State) : Prop where
  pending : t.pending = s.pending
  timebase : t.timebase = s.timebase
  window : t.window = s.window
  lanes : ∀ l, (t.lane l).unread = (s.lane l).unread
  store : t.store = s.store
  alloc : t.alloc = s.alloc
  pins : t.pins = s.pins
  claims : t.claims = s.claims
  groups : t.groups = s.groups
  qualifier : t.qualifier = s.qualifier
  capture : t.capture = s.capture
  captureRing : ({ t.captureRing with writing := none } : RingWriter) = { s.captureRing with writing := none }
  trips : t.trips = s.trips
  post : t.post = s.post
  completionRing :
    ({ t.completionRing with writing := none } : RingWriter) = { s.completionRing with writing := none }
  interrupt : t.interrupt = s.interrupt
  outside : t.outside = s.outside
  choices : t.choices = s.choices
  bus : s.port.bus <+: t.port.bus
  fetch : ∀ l, (s.lane l).fetch ≠ .none →
    (t.lane l).fetch = (s.lane l).fetch ∧ (t.lane l).reserved = (s.lane l).reserved
  loads : ∀ l (k : Nat) e, (s.lane l).staging[k]? = some e →
    e.state ≠ .loading ∨ e.status ≠ none ∨ e.reading ≠ none ∨ e.blocks.length ≤ e.issued →
    (t.lane l).staging[k]? = some e
  completionWriting : s.completionRing.writing ≠ none → t.completionRing.writing = s.completionRing.writing
  captureWriting : s.captureRing.writing ≠ none → t.captureRing.writing = s.captureRing.writing

/-- The work that follows from an event in the same event, and the Host Port's turns, leave all this from `s`
to `t`: the registers, the timebase, the store, the input side, both rings but for a write put in flight,
the interrupt logic, every lane's ring indexes and shadow pace, and every record already in the Post
Queue. A run state can only go from TRIPPED to RUN, by a RESUME (R11). -/
structure EventFrame (s t : State) : Prop where
  pending : t.pending = s.pending
  timebase : t.timebase = s.timebase
  window : t.window = s.window
  store : t.store = s.store
  qualifier : t.qualifier = s.qualifier
  capture : t.capture = s.capture
  captureRing : ({ t.captureRing with writing := none } : RingWriter) = { s.captureRing with writing := none }
  trips : t.trips = s.trips
  completionRing :
    ({ t.completionRing with writing := none } : RingWriter) = { s.completionRing with writing := none }
  interrupt : t.interrupt = s.interrupt
  outside : t.outside = s.outside
  base : ∀ l, (t.lane l).base = (s.lane l).base
  entries : ∀ l, (t.lane l).entries = (s.lane l).entries
  consumer : ∀ l, (t.lane l).consumer = (s.lane l).consumer
  tail : ∀ l, (t.lane l).tail = (s.lane l).tail
  shadow : ∀ l, (t.lane l).shadow = (s.lane l).shadow
  run : ∀ l, (t.lane l).run = (s.lane l).run ∨ ((s.lane l).run = .tripped ∧ (t.lane l).run = .run)
  posted : s.post.items <+: t.post.items

/-- The entry `a` of lane `l` has gone to RETIRING with `status` at `now`: it still waits there, its context
port among the waiting posters, or its completion record is in the Post Queue (R16, R17, R155). -/
def Retired (l : LaneId) (a : Active) (status : Status) (now : Tick) (t : State) : Prop :=
  ((t.lane l).active = some (a.retire status now) ∧ .context l ∈ t.post.waiting)
    ∨ ∃ x ∈ t.post.items, x.source = .general ∧ x.record.tag = recordTag a.record
        ∧ x.record.lane = laneByte l ∧ x.record.kind = a.kind ∧ x.record.status = status
        ∧ x.record.late = a.late ∧ x.record.grouped = a.grouped ∧ x.record.stats = a.stats
        ∧ x.record.startTime = a.startTime ∧ x.record.endTime = now

/-- The RETUNE with tag `tag` that arrived at `arrival` has been resolved `status` at `now`: its completion
waits in the retune outbox of lane `l`, or is in the Post Queue (R22, R112). -/
def Resolved (l : LaneId) (tag : Word) (arrival now : Tick) (status : Status) (t : State) : Prop :=
  retuneCompletion l tag arrival now status ∈ (t.lane l).outbox
    ∨ ∃ held, ∃ x ∈ t.post.items, x.source = .general
        ∧ x.record = { retuneCompletion l tag arrival now status with pinsHeld := held }

/-- A block list has been freed: each of its blocks is in the free list, or has been granted on (R27, R30). -/
def Freed (blocks : List Nat) (t : State) : Prop := ∀ b ∈ blocks, b ∈ t.alloc.free ∨ b ∈ heldBlocks t

/-- The model's note of the output a pin had in the tick before a release or grant that sets it to `output`: the
first that moved it is kept (notes/assumptions/9.md). -/
def PinEntry.noted (output : Level) (p : PinEntry) : Option Level :=
  if output = p.output then p.earlier else some (p.earlier.getD p.output)

/-- A pin after its release (R54). -/
def PinEntry.released (p : PinEntry) : PinEntry :=
  { p with owner := none, role := none, held := false, output := p.safe, earlier := p.noted p.safe }

/-- What DISABLE and a device FAULT leave of every block but the Register Window, the Interrupt Logic and the
bus: `s` before, `t` after (the tables of R162 and R173). -/
structure WorkDropped (s t : State) : Prop where
  timebase : t.timebase = s.timebase
  store : t.store = s.store
  outside : t.outside = s.outside
  lanes : ∀ l, t.lane l = { LaneState.reset with
    base := (s.lane l).base, entries := (s.lane l).entries, consumer := (s.lane l).consumer, tail := (s.lane l).tail }
  alloc : t.alloc = { free := List.range 256, queue := [] }
  pins : ∀ n : PinId, t.pin n = (s.pin n).released
  claims : t.claims = []
  groups : ∀ g, t.group g = Group.idle
  interval : t.qualifier.interval = s.qualifier.interval
  levels : ∀ n : PinId, t.qualifier.pin n = ⟨false, 0⟩
  capture : (∀ n : PinId, t.capture.pins.get n = ⟨.none, none⟩) ∧ t.capture.fifo = [] ∧ t.capture.dropped = 0
  captureRing : t.captureRing = { s.captureRing with writing := none }
  trips : ∀ i, t.trip i = { s.trip i with armed := false, carry := none }
  post : t.post = { items := [], waiting := [] }
  completionRing : t.completionRing = { s.completionRing with writing := none }

/-! ### Retirement, withdrawal and the start of play, written out from the tables -/

/-- Whether a lane owns a pin. -/
abbrev OwnsPin (l : LaneId) (s : State) : Prop := ∃ n : PinId, (s.pin n).owner = some l

/-- Whether an active BURST in this context has had its claim granted and is not yet retiring (R13, R16). -/
def Context.owning : Context → Bool
  | .groupWait | .timeWait _ _ | .playing _ => true
  | .claiming | .retiring _ _ => false

/-- Entry of lane `l`'s active entry `a` into RETIRING with `status`: `s` before, `u` after, and the work that
follows, in some order (R16, R27, R55). The pins of a BURST whose claim was granted are marked held or released; blocks
go to the back of the free list; the context port asks for a general entry. -/
structure Retires (l : LaneId) (a : Active) (status : Status) (s u : State) (work : List Task) : Prop where
  rest : u = { s with lanes := u.lanes, alloc := { s.alloc with free := s.alloc.free ++ a.blocks }, pins := u.pins }
  lanes : ∀ k, u.lane k =
    if k = l then
      { s.lane l with active := some { a with context := .retiring status s.timebase, blocks := [] } }
    else s.lane k
  pins : ∀ n : PinId, u.pin n =
    if (s.pin n).owner = some l ∧ a.kind = 1 ∧ a.context.owning = true then
      if (burstOf a.record).holdPins = true ∧ status ≠ .aborted ∧ status ≠ .tripped then
        { s.pin n with held := true }
      else (s.pin n).released
    else s.pin n
  work : work.Perm
    ((if a.blocks = [] then [] else [.look])
    ++ (if a.kind = 1 ∧ a.context.owning = true ∧ OwnsPin l s
          ∧ ¬((burstOf a.record).holdPins = true ∧ status ≠ .aborted ∧ status ≠ .tripped) then [.examine] else [])
    ++ [.ask (.context l)])

/-- The completions a shadow pace that resolves `status` at `now` adds to the retune outbox (R21, R112). -/
def LaneState.shadowCompletion (l : LaneId) (status : Status) (now : Tick) (x : LaneState) : List Completion :=
  match x.shadow with
  | none => []
  | some sh =>
    [{ tag := sh.tag, lane := BitVec.ofNat 8 l.val, kind := 2, status := status, late := false,
       pinsHeld := false, grouped := false, stats := ⟨0, 0, 0, 0, 0⟩, startTime := sh.arrival, endTime := now,
       detail := .none }]

/-- A staging entry withdrawn with `w` (R5, R19, R36). -/
def Entry.withdrawnBy (w : Status) (e : Entry) : Entry :=
  if e.state = .failed ∨ (e.state = .loading ∧ e.status.isSome = true) then e
  else if e.state = .loading ∧ e.reading.isSome = true then { e with status := some w }
  else { e with state := .failed, status := some (e.status.getD w), blocks := [], reading := none }

/-- A lane's work withdrawn with `w` at `now` (R18, R19, R111). -/
def LaneState.withdrawnBy (w : Status) (l : LaneId) (now : Tick) (x : LaneState) : LaneState :=
  { x with
    active := x.active.map fun a =>
      match a.context with
      | .retiring _ _ => a
      | _ => { a with context := .retiring w now, blocks := [] }
    staging := x.staging.map (Entry.withdrawnBy w)
    shadow := none
    outbox := x.outbox ++ x.shadowCompletion l w now }

/-- The blocks a withdrawal of the lane frees at once: the active entry's, then the staging entries', oldest
first (R27). -/
def LaneState.freedAtOnce (x : LaneState) : List Nat :=
  (match x.active with
    | none => []
    | some a => match a.context with
      | .retiring _ _ => []
      | _ => a.blocks)
  ++ x.staging.flatMap fun e =>
      if e.state = .failed ∨ (e.state = .loading ∧ (e.status.isSome = true ∨ e.reading.isSome = true)) then []
      else e.blocks

/-- The requests the ports of a withdrawn lane make (R155). -/
def LaneState.asksOnWithdrawal (l : LaneId) (x : LaneState) : List Task :=
  (match x.active with
    | none => []
    | some a => match a.context with
      | .retiring _ _ => []
      | _ => [.ask (.context l)])
  ++ (if x.shadow.isSome = true ∧ x.outbox = [] then [.ask (.retune l)] else [])

/-- A group after the lanes `ls` have left it (R69, R70): their ready bits clear, and it is IDLE when it has
lost its last ready member. -/
def Group.without (ls : List LaneId) (g : Group) : Group :=
  let ready := g.ready &&& ~~~maskOf ls
  if g.state = .idle ∨ ready = g.ready then g else if ready = 0 then Group.idle else { g with ready := ready }

/-- The withdrawal of the lanes `ls` with `w` in one event, each lane then as `after` says: `s` before, `u`
after in every block that it reaches, and the work that follows, in some order (R18, R19, R27, R31, R53, R54, R69, R70,
R111). Blocks of different lanes are freed in either order. -/
structure Withdrawal (w : Status) (ls : List LaneId) (after : LaneState → LaneState) (s u : State)
    (work : List Task) : Prop where
  lanes : ∀ l, u.lane l = if l ∈ ls then after ((s.lane l).withdrawnBy w l s.timebase) else s.lane l
  free : ∃ order : List LaneId, order.Perm ls
    ∧ u.alloc.free = s.alloc.free ++ order.flatMap fun l => (s.lane l).freedAtOnce
  queue : u.alloc.queue = s.alloc.queue.filter fun r => decide (r.lane ∉ ls)
  claims : u.claims = s.claims.filter fun c => decide (c.lane ∉ ls)
  pins : ∀ n : PinId, u.pin n = if ∃ l ∈ ls, (s.pin n).owner = some l then (s.pin n).released else s.pin n
  groups : ∀ g, u.group g = (s.group g).without ls
  work : work.Perm
    ((if ls = [] then [] else [.look]) ++ (if ∃ l ∈ ls, OwnsPin l s then [.examine] else [])
    ++ ls.flatMap (fun l => (s.lane l).asksOnWithdrawal l) ++ ls.map .take)

/-- A lane whose burst `a` enters PLAYING at `now` with its first vector `v` (R15, R74, R82, R104, R110). -/
def LaneState.started (l : LaneId) (a : Active) (late grouped : Bool) (v : Vec) (now : Tick) (x : LaneState) :
    LaneState :=
  let b := burstOf a.record
  { x with
    active := some { a with
      startTime := now, late := late, grouped := grouped, stats := ⟨1, 0, 0, 0, 0⟩
      context := .playing
        { play := 1, period := 1, periodStart := now
          periodLength := b.paceInteger.setWidth 48 + (if 32 ≤ b.paceFraction.toNat then 1 else 0)
          paceInteger := b.paceInteger, paceFraction := b.paceFraction
          accumulator := if 32 ≤ b.paceFraction.toNat then b.paceFraction.toNat - 32 else b.paceFraction.toNat
          gateResolved := false, stop := none, vector := v, strobed := false } }
    shadow := none
    outbox := x.outbox ++ x.shadowCompletion l .superseded now }

/-- The burst `a` of lane `l`, whose claim has been granted, leaves CLAIMING by its start mode: `g` before, `u`
after, and the work that follows (R13, R14, R60 to R63, R101). -/
def LeavesClaiming (l : LaneId) (a : Active) (g u : State) (work : List Task) : Prop :=
  let b := burstOf a.record
  (b.startMode ≠ .group → work = [] ∧ u = { g with lanes := u.lanes }
    ∧ ∀ k, u.lane k = if k = l then { g.lane l with active := some { a with
        context :=
          if b.startMode = .atTime ∧ due b.startTime g.timebase = false then .timeWait b.startTime false
          else .timeWait (g.timebase + 1) (b.startMode = .atTime) } }
      else g.lane k)
  ∧ (b.startMode = .group →
      (∀ x, (g.group b.group).arrive l (arrivalOf b) g.timebase = some x → work = []
        ∧ u = { g with lanes := u.lanes, groups := u.groups }
        ∧ (∀ k, u.group k = if k = b.group then x else g.group k)
        ∧ ∀ k, u.lane k = if k = l then { g.lane l with active := some { a with context := .groupWait } }
            else g.lane k)
      ∧ ((g.group b.group).arrive l (arrivalOf b) g.timebase = none →
          Retires l { a with context := .groupWait } .groupMismatch g u work))

/-- A pin after a drive update of lane `l` with `value` (R43). -/
def PinEntry.driven (l : LaneId) (value : Pins) (n : PinId) (p : PinEntry) : PinEntry :=
  if p.owner = some l ∧ (p.role = some .drive ∨ p.role = some .both) then
    { p with output := if value.getLsbD n then .high else .low }
  else p

/-! ### What a setup block must hold (R171, R182) -/

/-- The bytes `off` to `off + size - 1` are all 0. -/
def BytesZero {n : Nat} (off size : Nat) (d : Bytes n) : Prop :=
  ∀ j : Fin n, off ≤ j.val → j.val < off + size → d.get j = 0

/-- Check 2: every ring has a power of two of entries, 16 to 4096. -/
def SetupEntriesFit (d : Bytes 256) : Prop :=
  ∀ k < 6, ∃ j, 4 ≤ j ∧ j ≤ 12 ∧ (field 16 (16 * k + 8) d).toNat = 2 ^ j

/-- Check 3: the bases are multiples of 64, the capture ring's of 16. -/
def SetupBasesFit (d : Bytes 256) : Prop :=
  (∀ k < 5, (field 64 (16 * k) d).toNat % 64 = 0) ∧ (field 64 80 d).toNat % 16 = 0

/-- Check 4: the qualifier interval and both thresholds are not 0. -/
def SetupNumbersFit (d : Bytes 256) : Prop := field 16 102 d ≠ 0 ∧ field 8 97 d ≠ 0 ∧ field 8 98 d ≠ 0

/-- Check 5: a trip set whose enable is 1 has a pin mask and a lane mask. -/
def SetupTripsFit (d : Bytes 256) : Prop :=
  ∀ i < 2, field 8 (125 + 16 * i) d = 1 →
    field 48 (112 + 16 * i) d ≠ 0 ∧ (field 8 (124 + 16 * i) d).toNat % 16 ≠ 0

/-- Check 6: every field and byte that the layout requires to be 0. -/
def SetupReservedFit (d : Bytes 256) : Prop :=
  (∀ n < 48, (field 16 (144 + 2 * n) d).toNat < 256 ∧ (field 16 (144 + 2 * n) d).toNat % 4 ≠ 3)
    ∧ (∀ i < 2, (field 8 (124 + 16 * i) d).toNat < 16 ∧ (field 8 (125 + 16 * i) d).toNat ≤ 1
        ∧ BytesZero (126 + 16 * i) 2 d)
    ∧ (field 8 96 d).toNat < 8 ∧ (∀ k < 6, BytesZero (16 * k + 10) 6 d)
    ∧ BytesZero 99 1 d ∧ BytesZero 104 8 d ∧ BytesZero 240 16 d

/-- A run is safe while every step answers a next state and every condition above holds of it. -/
def Sound (s : State) : Prop :=
  BlocksPartitioned s ∧ StoreCanonical s ∧ PinsSound s ∧ GroupsSound s ∧ PostBounded s ∧ LanesBounded s
    ∧ RingsSound s ∧ FifoBounded s ∧ PortQuiet s ∧ OffIsEmpty s ∧ WindowSound s ∧ StabilityBounded s ∧ TrippedIsDrained s
    ∧ BurstsFit s

end Sys2Proof.Machine
end

