-- ==== Sys2Proof/Certificates/Slice0/Obligations.lean ====
section
/-! DEFINITION. The statements for the provers. Each docstring says in words what the Lean says, and which
rules of spec/ it rests on. -/

section

open Sys2Proof Sys2Proof.Machine

/-- For every command c and state s with c at the front of its queue, the step of s is exec of c on s with the
queue's rest, and with that outcome. The queue of commands is the model's (notes/assumptions/1.md). Rests on:
00_scope.md section 2; 00_scope.md section 4, Time. -/
def Obligations.StepRunsFrontCommand : Prop :=
  ∀ (c : Instr) (rest : List Instr) (s : State), s.pending = c :: rest →
    step s = exec c { s with pending := rest }

/-- With an empty queue the step of s is exec of one of the part's own events whose tick is the present one;
when there is none, the next tick, which drops each note of a moved pin but one whose pin has a change of its
own waiting (notes/assumptions/9.md, DESIGN CHOICE), and in ON the tick's sample has then been taken and no
unfiltered pin differs, with or without the releases and grants yet to be seen, unless the qualifier has
looked in this tick. The own events of a tick are exactly: the tick's one look of the qualifier, when it may
be taken (QualifierFollowsAndSamples): the sample on the grid, and off the grid a look when an unfiltered pin
differs; the expiry of a waiting claim, the deadline of a FORMING group, the start tick of a COMMITTED group,
the end of a MARK's or a BURST's TIME_WAIT, the untaken strobe and the end of the period of a playing burst,
and the expiry of a holdoff timer. That the model takes them on an empty queue is its choice
(notes/assumptions/1.md, DESIGN CHOICE). Rests on: 00_scope.md section 4, Time; 6.1 The timebase. -/
def Obligations.IdleStepTakesDueEventOrTicks : Prop :=
  (∀ s : State, s.pending = [] →
    (tickEvents s ≠ [] → ∃ n, ∃ i ∈ tickEvents { s with choices := n }, step s = exec i { s with choices := n })
    ∧ (tickEvents s = [] →
        (∃ pins, step s = .next { s with
            timebase := s.timebase + 1, pins := pins, qualifier := { s.qualifier with looked := false } }
          ∧ ∀ n : PinId, pins.get n = { s.pin n with
              earlier := if (s.pin n).qualifierCount = 0 ∧ ownLevel s n ≠ (s.qualifier.pin n).level then
                (s.pin n).earlier else none })
        ∧ (s.window.device = .on → s.qualifier.nextSample ≠ s.timebase
            ∧ (s.qualifier.looked = true ∨ ∀ n : PinId, (s.pin n).qualifierCount = 0 →
                rawLevel s n = (s.qualifier.pin n).level ∧ ownLevel s n = (s.qualifier.pin n).level))))
  ∧ ∀ (i : Instr) (s : State), i ∈ tickEvents s ↔
      (i = .qualifierSample ∧ s.window.device = .on ∧ s.qualifier.nextSample = s.timebase ∧ lookReady s = true)
      ∨ (i = .rawLevelChange s.outside.level s.outside.hold ∧ s.window.device = .on
          ∧ s.qualifier.nextSample ≠ s.timebase ∧ lookReady s = true
          ∧ ∃ n : PinId, (s.pin n).qualifierCount = 0
              ∧ (rawLevel s n ≠ (s.qualifier.pin n).level ∨ ownLevel s n ≠ (s.qualifier.pin n).level))
      ∨ (∃ c ∈ s.claims, i = .claimTimeout c.lane ∧ c.expiry = s.timebase)
      ∨ (∃ g, i = .groupDeadline g ∧ (s.group g).state = .forming ∧ (s.group g).deadline = s.timebase)
      ∨ (∃ g, i = .groupStartTick g ∧ (s.group g).state = .committed ∧ (s.group g).startTick = s.timebase)
      ∨ (∃ l a late, (s.lane l).active = some a ∧ a.context = .timeWait s.timebase late
          ∧ ((i = .markDue l ∧ a.kind = 3) ∨ (i = .burstStart l ∧ a.kind = 1)))
      ∨ (∃ l a e, (s.lane l).active = some a ∧ a.context = .playing e
          ∧ ((i = .strobe l ∧ e.strobed = false
                ∧ e.periodStart + (burstOf a.record).strobeOffset.setWidth 48 = s.timebase)
              ∨ (i = .periodEnd l ∧ e.periodStart + e.periodLength = s.timebase)))
      ∨ (i = .holdoffExpiry .completion ∧ s.interrupt.completion.timer = some s.timebase)
      ∨ (i = .holdoffExpiry .capture ∧ s.interrupt.capture.timer = some s.timebase)

/-- Every command but RESET, RESET_PIN and POWER_ON leaves the timebase as it is; those three set it to 0.
When no command waits and nothing of the tick is left to do, the step answers a state whose timebase is one
higher modulo 2^48, in whatever device state, so that it wraps from 2^48-1 to 0; no other step of an empty
queue moves it. Which step is the tick is the choice of the model (notes/assumptions/1.md, DESIGN CHOICE).
Rests on: 6.1 The timebase. -/
def Obligations.TimebaseMovesByTicksAndResets : Prop :=
  (∀ (c : Instr) (s t : State), exec c s = .next t →
    t.timebase = if c = .reset ∨ c = .powerOn ∨ c = .resetPin then 0 else s.timebase)
  ∧ (∀ s : State, s.pending = [] → tickEvents s = [] →
      ∃ t, step s = .next t ∧ t.timebase.toNat = (s.timebase.toNat + 1) % 2 ^ 48)
  ∧ (∀ s t : State, s.pending = [] → tickEvents s ≠ [] → step s = .next t →
      t.timebase = s.timebase)

/-- From a state in which everything is empty outside ON (OffIsEmpty), the device state after each command is
the one the table of R169 gives: an accepted ENABLE, the return of the setup read, DISABLE, a bus error on a
write in flight, and reset move it, and nothing else does. A failed setup read sets SETUP_ERROR. In OFF and
CONFIGURING the interrupt line is low. Formalises R169. -/
def Obligations.DeviceStateMovesOnlyByItsEvents : Prop :=
  (∀ (c : Instr) (s t : State), OffIsEmpty s → exec c s = .next t →
    t.window.device =
      (match c with
      | .reset | .powerOn | .resetPin | .disable => .off
      | .enable => if s.window.device = .off then .configuring else s.window.device
      | .setupReadReturn reply =>
        (match s.window.device, s.window.setupRead with
        | .configuring, some r => if setupCheck r.address reply = 0 then .on else .off
        | d, _ => d)
      | .completionWriteError =>
        if s.window.device = .on ∧ s.completionRing.writing ≠ none then .fault else s.window.device
      | .captureWriteError =>
        if s.window.device = .on ∧ s.captureRing.writing ≠ none then .fault else s.window.device
      | _ => s.window.device))
  ∧ (∀ (reply : ReadReply 256) (r : SetupRead) (s t : State), s.window.device = .configuring →
      s.window.setupRead = some r → setupCheck r.address reply ≠ 0 → exec (.setupReadReturn reply) s = .next t →
      t.window.setupError = true)
  ∧ (∀ s : State, s.window.device = .off ∨ s.window.device = .configuring → irqLine s = false)

/-- For every word written to CONTROL in full, the command it offers is accepted exactly as the table of R168
says. A refused one answers the state with REFUSED set and nothing else changed. An accepted one completes,
CONTROL then reads its code and, for ABORT and START, its lane mask, or 0 after RESET. Bits 12 to 31 are not
looked at, nor is the lane mask by ENABLE, DISABLE and RESET. An ABORT or START with lane mask 0 changes the
read-back alone. Formalises R168. -/
def Obligations.CommandsAcceptedByDeviceState : Prop :=
  ∀ (w : Word) (s : State), PortQuiet s →
    let c := decodeWrite .control 0xF w
    let code := w.toNat % 256
    let mask := w.toNat / 256 % 16
    let d := s.window.device
    let accepted := (code = 1 ∧ d = .off) ∨ code = 2 ∨ code = 3 ∨ ((code = 4 ∨ code = 5) ∧ d = .on)
    c.wellFormed = true
    ∧ (∀ v : Word, v.toNat % 256 = code → (v.toNat / 256 % 16 = mask ∨ ¬(code = 4 ∨ code = 5)) →
        decodeWrite .control 0xF v = c)
    ∧ (¬ accepted → exec c s = .next { s with window := { s.window with refused := true } })
    ∧ (accepted → ∃ t, exec c s = .next t
        ∧ (readReg t .control).toNat =
            (if code = 3 then 0 else if code = 4 ∨ code = 5 then code + 256 * mask else code)
        ∧ (code ≠ 3 → t.window.refused = s.window.refused))
    ∧ (accepted → (code = 4 ∨ code = 5) → mask = 0 →
        exec c s = .next { s with window := { s.window with control := BitVec.ofNat 32 code } })

/-- The eight words stand at the offsets 00h, 04h, to 1Ch, and at no other offset. With the registers sound,
IDENT reads vendor 52h, part 4804 and revision 1, the word 5212C401h. CONTROL reads 0 above bit 11. Every
field of STATUS stands at its bits: device state, run states, causes, sticky bits, setup error code, fault
cause, and 0 in bits 28 to 31, with the codes 0 to 3 of the device states, 0 to 4 of the run states and 0 to 2
of the fault causes. SETUP_LO and SETUP_HI are the halves of the setup address. SUBMIT, ACKNOWLEDGE and offset
1Ch read 0. A full write to SUBMIT names the lane in bits 30 and 31 and the tail in bits 0 to 11, one to
ACKNOWLEDGE the ring in bit 31 and the head in bits 0 to 11, one to CONTROL the code in bits 0 to 7 and the
mask in bits 8 to 11. Formalises R183. -/
def Obligations.RegisterLayouts : Prop :=
  (∀ s : State, WindowSound s →
    readReg s .ident = 0x5212C401 ∧ (readReg s .ident).toNat / 2 ^ 24 = 0x52
    ∧ (readReg s .ident).toNat / 2 ^ 8 % 2 ^ 16 = 4804 ∧ (readReg s .ident).toNat % 2 ^ 8 = 1
    ∧ (readReg s .control).toNat < 2 ^ 12
    ∧ (readReg s .status).toNat % 4 = s.window.device.code
    ∧ (∀ n : LaneId, (readReg s .status).toNat / 2 ^ (2 + 3 * n.val) % 8 = (s.lane n).run.code)
    ∧ (readReg s .status).getLsbD 14 = causeCQ s ∧ (readReg s .status).getLsbD 15 = causeKQ s
    ∧ (readReg s .status).getLsbD 16 = causeFault s ∧ (readReg s .status).getLsbD 17 = s.window.indexError
    ∧ (readReg s .status).getLsbD 18 = s.window.refused ∧ (readReg s .status).getLsbD 19 = s.window.setupError
    ∧ (readReg s .status).toNat / 2 ^ 20 % 16 = s.window.setupCode
    ∧ (readReg s .status).toNat / 2 ^ 24 = s.window.faultCause.code
    ∧ readReg s .setupHi ++ readReg s .setupLo = s.window.setupAddress
    ∧ readReg s .submit = 0 ∧ readReg s .acknowledge = 0 ∧ readReg s .unused = 0)
  ∧ (∀ w : Word,
    (∃ l tail, decodeWrite .submit 0xF w = .submit l tail ∧ l.val = w.toNat / 2 ^ 30 ∧ tail.toNat = w.toNat % 2 ^ 12)
    ∧ (∃ head, head.toNat = w.toNat % 2 ^ 12 ∧ decodeWrite .acknowledge 0xF w =
        if w.getLsbD 31 then .acknowledgeCapture head else .acknowledgeCompletion head)
    ∧ (∃ mask, mask.toNat = w.toNat / 2 ^ 8 % 2 ^ 4
        ∧ (w.toNat % 2 ^ 8 = 4 → decodeWrite .control 0xF w = .abort mask)
        ∧ (w.toNat % 2 ^ 8 = 5 → decodeWrite .control 0xF w = .start mask))
    ∧ (w.toNat % 2 ^ 8 = 1 → decodeWrite .control 0xF w = .enable)
    ∧ (w.toNat % 2 ^ 8 = 2 → decodeWrite .control 0xF w = .disable)
    ∧ (w.toNat % 2 ^ 8 = 3 → decodeWrite .control 0xF w = .reset)
    ∧ decodeWrite .setupLo 0xF w = .setupLoWrite w ∧ decodeWrite .setupHi 0xF w = .setupHiWrite w
    ∧ decodeWrite .status 0xF w = .statusWrite w)
  ∧ (∀ s : State, readAt s 0x00 = some (readReg s .ident) ∧ readAt s 0x04 = some (readReg s .control)
    ∧ readAt s 0x08 = some (readReg s .status) ∧ readAt s 0x0C = some (readReg s .setupLo)
    ∧ readAt s 0x10 = some (readReg s .setupHi) ∧ readAt s 0x14 = some (readReg s .submit)
    ∧ readAt s 0x18 = some (readReg s .acknowledge) ∧ readAt s 0x1C = some (readReg s .unused))
  ∧ (∀ (be : BitVec 4) (w : Word),
    writeAt 0x00 be w = some (decodeWrite .ident be w) ∧ writeAt 0x04 be w = some (decodeWrite .control be w)
    ∧ writeAt 0x08 be w = some (decodeWrite .status be w) ∧ writeAt 0x0C be w = some (decodeWrite .setupLo be w)
    ∧ writeAt 0x10 be w = some (decodeWrite .setupHi be w) ∧ writeAt 0x14 be w = some (decodeWrite .submit be w)
    ∧ writeAt 0x18 be w = some (decodeWrite .acknowledge be w)
    ∧ writeAt 0x1C be w = some (decodeWrite .unused be w))
  ∧ (∀ offset : Nat, regAt offset = none ↔ ¬(offset % 4 = 0 ∧ offset < 0x20))
  ∧ ([.off, .configuring, .on, .fault] : List DeviceState).map DeviceState.code = [0, 1, 2, 3]
  ∧ ([.off, .run, .tripped, .stopped, .faulted] : List RunState).map RunState.code = [0, 1, 2, 3, 4]
  ∧ ([.none, .completionWrite, .captureWrite] : List FaultCause).map FaultCause.code = [0, 1, 2]

/-- A write with fewer than all four byte enables, and a full write to IDENT or to offset 1Ch, is a well-
formed command that answers the state as it was: no register, no command, no sticky bit. In a full write to
SUBMIT, ACKNOWLEDGE or CONTROL the undefined bits are not looked at, and in one to STATUS only bits 17 to 19
are. SUBMIT and ACKNOWLEDGE read 0. Every write to the window decodes to a well-formed command. Rests on: 12.6
The register window. -/
def Obligations.IgnoredWritesChangeNothing : Prop :=
  (∀ (reg : Reg) (be : BitVec 4) (w : Word) (s : State), PortQuiet s →
    (be ≠ 0xF ∨ reg = .ident ∨ reg = .unused) →
      (decodeWrite reg be w).wellFormed = true ∧ exec (decodeWrite reg be w) s = .next s)
  ∧ (∀ w v : Word, (∀ k < 12, w.getLsbD k = v.getLsbD k) → w.getLsbD 31 = v.getLsbD 31 →
      decodeWrite .acknowledge 0xF w = decodeWrite .acknowledge 0xF v
      ∧ (w.getLsbD 30 = v.getLsbD 30 → decodeWrite .submit 0xF w = decodeWrite .submit 0xF v)
      ∧ decodeWrite .control 0xF w = decodeWrite .control 0xF v)
  ∧ (∀ (w v : Word) (s : State), w.getLsbD 17 = v.getLsbD 17 → w.getLsbD 18 = v.getLsbD 18 →
      w.getLsbD 19 = v.getLsbD 19 → exec (decodeWrite .status 0xF w) s = exec (decodeWrite .status 0xF v) s)
  ∧ (∀ s : State, readReg s .submit = 0 ∧ readReg s .acknowledge = 0)
  ∧ ∀ (reg : Reg) (be : BitVec 4) (w : Word), (decodeWrite reg be w).wellFormed = true

/-- In any device state a write to SETUP_LO replaces the low half of the setup address, one to SETUP_HI the
high half, and nothing else changes, the setup read in flight included. A write to STATUS clears each of
INDEX_ERROR, REFUSED and SETUP_ERROR written with 1, the last together with the setup error code, and nothing
else changes. Every other command but a reset leaves the setup address as it is, and a reset sets it to 0.
Rests on: 11.1 Register accesses. -/
def Obligations.RegisterWritesTakeEffect : Prop :=
  (∀ (v : Word) (s : State), PortQuiet s →
    exec (.setupLoWrite v) s = .next { s with window := { s.window with
      setupAddress := s.window.setupAddress.extractLsb' 32 32 ++ v } }
    ∧ exec (.setupHiWrite v) s = .next { s with window := { s.window with
        setupAddress := v ++ s.window.setupAddress.extractLsb' 0 32 } }
    ∧ exec (.statusWrite v) s = .next { s with window := { s.window with
        indexError := s.window.indexError && !v.getLsbD 17
        refused := s.window.refused && !v.getLsbD 18
        setupError := s.window.setupError && !v.getLsbD 19
        setupCode := if v.getLsbD 19 then 0 else s.window.setupCode } })
  ∧ ∀ (c : Instr) (s t : State), exec c s = .next t →
      t.window.setupAddress =
        match c with
        | .setupLoWrite v => s.window.setupAddress.extractLsb' 32 32 ++ v
        | .setupHiWrite v => v ++ s.window.setupAddress.extractLsb' 0 32
        | .reset | .powerOn | .resetPin => 0
        | _ => s.window.setupAddress

/-- ENABLE in OFF answers the state with CONTROL reading 1, the device CONFIGURING and a 256-byte read at the
setup address as it stands on the bus as the setup read; every other block is as OFF left it. In CONFIGURING
no requester presents. After a DISABLE in CONFIGURING the device is OFF, the read is still on the bus, and its
return, whatever it brings, changes nothing. Rests on: 11.3 ENABLE and the setup block. -/
def Obligations.EnableIssuesSetupRead : Prop :=
  (∀ s : State, s.window.device = .off →
    exec .enable s = .next { s with
      window := { s.window with
        control := 1, device := .configuring
        setupRead := some { op := s.port.nextOp, address := s.window.setupAddress } }
      port := { s.port with
        bus := s.port.bus ++ [⟨s.port.nextOp, .setup, s.window.setupAddress, 256, []⟩]
        nextOp := s.port.nextOp + 1 } })
  ∧ (∀ s : State, s.window.device ≠ .on → PortQuiet s)
  ∧ ∀ (reply : ReadReply 256) (s : State), s.window.device = .configuring →
      ∃ t, exec .disable s = .next t ∧ t.window.device = .off ∧ t.port.bus = s.port.bus
        ∧ t.window.setupError = s.window.setupError ∧ exec (.setupReadReturn reply) t = .next t

/-- The code of a returned setup block is that of the first failing check of the table of R171, and 0 when all
pass: 1 for a bus error, 2 ring entries, 3 ring bases, 4 qualifier interval or thresholds, 5 enabled trip sets
with an empty mask, 6 reserved fields, 7 the address the read was issued at. With a code other than 0 the
return takes the device from CONFIGURING to OFF, sets SETUP_ERROR and the code, takes the read off the bus,
and changes nothing else. Formalises R171. -/
def Obligations.SetupChecksReportFirstFailure : Prop :=
  (∀ (address : Addr) (d : Bytes 256),
    setupCheck address .busError = 1
    ∧ (¬ SetupEntriesFit d → setupCheck address (.data d) = 2)
    ∧ (SetupEntriesFit d → ¬ SetupBasesFit d → setupCheck address (.data d) = 3)
    ∧ (SetupEntriesFit d → SetupBasesFit d → ¬ SetupNumbersFit d → setupCheck address (.data d) = 4)
    ∧ (SetupEntriesFit d → SetupBasesFit d → SetupNumbersFit d → ¬ SetupTripsFit d →
        setupCheck address (.data d) = 5)
    ∧ (SetupEntriesFit d → SetupBasesFit d → SetupNumbersFit d → SetupTripsFit d → ¬ SetupReservedFit d →
        setupCheck address (.data d) = 6)
    ∧ (SetupEntriesFit d → SetupBasesFit d → SetupNumbersFit d → SetupTripsFit d → SetupReservedFit d →
        setupCheck address (.data d) = if address.toNat % 64 = 0 then 0 else 7))
  ∧ ∀ (reply : ReadReply 256) (r : SetupRead) (s : State),
      s.window.device = .configuring → s.window.setupRead = some r → setupCheck r.address reply ≠ 0 →
      exec (.setupReadReturn reply) s = .next { s with
        window := { s.window with
          device := .off, setupError := true, setupCode := setupCheck r.address reply, setupRead := none }
        port := { s.port with bus := s.port.bus.filter fun o => o.id != r.op } }

/-- The return of a setup block that passes every check answers a state in which every block is as the table
of R172 says: every lane RUN, empty, with its ring; all blocks free in ascending order; every pin unowned at
its new safe level with its qualifier count and watch setting, and no note of an earlier output
(notes/assumptions/9.md, DESIGN CHOICE); no claim; every group IDLE; the qualifier with its interval, its
first sample of every pin at this tick, and the grid from here; the capture path empty with its ring; the trip
sets loaded, armed exactly when enabled with their condition false; the Post Queue empty and the completion
ring loaded; the round-robins at their start; mask, holdoff and thresholds loaded, timers stopped, flags
clear; fault cause 0, the sticky bits, the timebase and the store as they were. That the first sample reads
the pins at their new safe levels is an inference of the model (notes/assumptions/13.md, DEDUCED). Rests on:
11.3 ENABLE and the setup block; 7.1 The qualifier; 8.2 Arming and firing. -/
def Obligations.EntryToOnSetsEveryBlock : Prop :=
  ∀ (d : Bytes 256) (r : SetupRead) (s : State),
    s.window.device = .configuring → s.window.setupRead = some r → setupCheck r.address (.data d) = 0 →
    ∃ t, exec (.setupReadReturn (.data d)) s = .next t
      ∧ t.window = { s.window with device := .on, faultCause := .none, setupRead := none }
      ∧ t.port = { s.port with lastServed := .capture, bus := s.port.bus.filter fun o => o.id != r.op }
      ∧ t.lastLane = 3
      ∧ (∀ l, t.lane l = { LaneState.reset with
          run := .run, base := field 64 (16 * l.val) d, entries := (field 16 (16 * l.val + 8) d).toNat })
      ∧ t.alloc = { free := List.range 256, queue := [] }
      ∧ (∀ n : PinId,
          let w := (field 16 (144 + 2 * n.val) d).toNat
          let safe : Level := if w % 4 = 0 then .low else if w % 4 = 1 then .high else .float
          t.pin n = { owner := none, role := none, held := false, output := safe, safe := safe, earlier := none
                      qualifierCount := w / 4 % 16
                      watch := if w / 64 % 4 = 0 then .none else if w / 64 % 4 = 1 then .rise
                               else if w / 64 % 4 = 2 then .fall else .both }
          ∧ t.capture.pins.get n = ⟨(t.pin n).watch, none⟩)
      ∧ t.claims = [] ∧ (∀ g, t.group g = Group.idle)
      ∧ t.qualifier.interval = field 16 102 d
      ∧ t.qualifier.nextSample = s.timebase + (field 16 102 d).setWidth 48
      ∧ (∀ n : PinId, t.qualifier.pin n = ⟨rawLevel t n, 0⟩)
      ∧ t.capture.fifo = [] ∧ t.capture.dropped = 0
      ∧ t.captureRing = { base := field 64 80 d, entries := (field 16 88 d).toNat, producer := 0, head := 0
                          phase := true, writing := none }
      ∧ (∀ i : SetId,
          let mask := field 48 (112 + 16 * i.val) d
          let pattern := field 48 (118 + 16 * i.val) d
          let enabled : Bool := field 8 (125 + 16 * i.val) d == 1
          (t.trip i).pinMask = mask ∧ (t.trip i).pattern = pattern
          ∧ (t.trip i).laneMask = (field 8 (124 + 16 * i.val) d).extractLsb' 0 4 ∧ (t.trip i).enabled = enabled
          ∧ (t.trip i).carry = none
          ∧ ((t.trip i).armed = true ↔ enabled = true
              ∧ ∃ n : PinId, mask.getLsbD n = true ∧ rawLevel t n ≠ pattern.getLsbD n))
      ∧ t.post = { items := [], waiting := [] }
      ∧ t.completionRing = { base := field 64 64 d, entries := (field 16 72 d).toNat, producer := 0, head := 0
                             phase := true, writing := none }
      ∧ t.interrupt = { mask := (field 8 96 d).extractLsb' 0 3, holdoff := field 16 100 d
                        completion := ⟨field 8 97 d, none, false⟩, capture := ⟨field 8 98 d, none, false⟩ }
      ∧ t.timebase = s.timebase ∧ t.store = s.store ∧ t.outside = s.outside ∧ t.pending = s.pending
      ∧ t.choices = s.choices

/-- In CONFIGURING, ON and FAULT, DISABLE completes with the device OFF, every block as the table of R173
says, the line low, and the setup address, fault cause, sticky bits, mask, thresholds and holdoff as they
were. The note of a moved pin is a choice of the model (notes/assumptions/9.md, DESIGN CHOICE). Reads and
writes on the bus stay there, and any return, data, done or bus error, then changes nothing but the bus. In
OFF it answers the state with CONTROL reading 2 and nothing else changed. Formalises R173. -/
def Obligations.DisableDropsAllWork : Prop :=
  (∀ s : State, s.window.device = .off →
    exec .disable s = .next { s with window := { s.window with control := 2 } })
  ∧ ∀ s : State, s.window.device ≠ .off →
    ∃ t, exec .disable s = .next t ∧ WorkDropped s t
      ∧ t.window = { s.window with control := 2, device := .off, setupRead := none }
      ∧ t.interrupt = { s.interrupt with
          completion := { s.interrupt.completion with timer := none, expired := false }
          capture := { s.interrupt.capture with timer := none, expired := false } }
      ∧ irqLine t = false ∧ t.port = s.port ∧ t.lastLane = s.lastLane ∧ t.pending = s.pending
      ∧ (∀ reply, exec (.setupReadReturn reply) t = .next t) ∧ (∀ l r, exec (.recordArrival l r) t = .next t)
      ∧ (∀ l, exec (.fetchBusError l) t = .next t) ∧ (∀ l, exec (.discardedFetchReturn l) t = .next t)
      ∧ (∀ l k d, exec (.loadReadReturn l k d) t = .next t) ∧ (∀ l k, exec (.loadFault l k) t = .next t)
      ∧ (∀ l k, exec (.withdrawnLoadReturn l k) t = .next t)
      ∧ exec .completionWriteDone t = .next t ∧ exec .completionWriteError t = .next t
      ∧ exec .captureWriteDone t = .next t ∧ exec .captureWriteError t = .next t
      ∧ (∀ op, exec (.staleReturn op) t =
          .next { t with port := { t.port with bus := t.port.bus.filter fun o => o.id != op } })

/-- In every device state each of the three resets answers the same state. In it the device is OFF with no
sticky bit, code, cause or setup read; the timebase, STATUS, CONTROL and the setup address read 0; every lane
is OFF and empty with base 0, entries 16, C and T 0; all blocks are free in ascending order and no request
waits; every pin is unowned, at safe level FLOAT, unfiltered and unwatched, without a note of the model
(notes/assumptions/9.md, DESIGN CHOICE); no claim waits and every group is IDLE; the sample interval is 1 and
every qualified level and stability count 0; the capture path, both rings and both trip sets stand at their
reset values; the Post Queue is empty; both round-robins stand before their first turn; mask and thresholds
are 0, timers stopped, flags clear and the line low. The contents of the Vector Store are left. No operation
is on the bus, and any reply that reaches the part changes nothing. Formalises R174. -/
def Obligations.ResetReturnsEveryBlock : Prop :=
  ∀ s : State,
    let ring : RingWriter :=
      { base := 0, entries := 16, producer := 0, head := 0, phase := true, writing := none }
    ∃ t, exec .reset s = .next t ∧ exec .resetPin s = .next t ∧ exec .powerOn s = .next t
      ∧ t.window = { device := .off, control := 0, setupAddress := 0, indexError := false, refused := false
                     setupError := false, setupCode := 0, faultCause := .none, setupRead := none }
      ∧ t.timebase = 0 ∧ readReg t .status = 0 ∧ readReg t .control = 0
      ∧ readReg t .setupLo = 0 ∧ readReg t .setupHi = 0
      ∧ t.port.bus = [] ∧ t.port.lastServed = .capture ∧ t.lastLane = 3
      ∧ (∀ l, t.lane l =
          { run := .off, staging := [], reserved := false, skip := none, active := none, shadow := none
            outbox := [], base := 0, entries := 16, consumer := 0, tail := 0, fetch := .none })
      ∧ t.store = s.store ∧ t.alloc = { free := List.range 256, queue := [] }
      ∧ (∀ n : PinId, t.pin n =
          { owner := none, role := none, held := false, output := .float, safe := .float
            qualifierCount := 0, watch := .none, earlier := none })
      ∧ t.claims = [] ∧ (∀ g, t.group g = Group.idle)
      ∧ t.qualifier.interval = 1 ∧ (∀ n : PinId, t.qualifier.pin n = ⟨false, 0⟩)
      ∧ (∀ n : PinId, t.capture.pins.get n = ⟨.none, none⟩) ∧ t.capture.fifo = [] ∧ t.capture.dropped = 0
      ∧ t.captureRing = ring ∧ t.completionRing = ring ∧ t.post = { items := [], waiting := [] }
      ∧ (∀ i, t.trip i = { pinMask := 0, pattern := 0, laneMask := 0, enabled := false, armed := false
                           carry := none })
      ∧ t.interrupt.mask = 0 ∧ t.interrupt.completion = ⟨0, none, false⟩
      ∧ t.interrupt.capture = ⟨0, none, false⟩ ∧ irqLine t = false
      ∧ (∀ reply, exec (.setupReadReturn reply) t = .next t) ∧ (∀ l r, exec (.recordArrival l r) t = .next t)
      ∧ (∀ l, exec (.fetchBusError l) t = .next t) ∧ (∀ l, exec (.discardedFetchReturn l) t = .next t)
      ∧ (∀ l k d, exec (.loadReadReturn l k d) t = .next t) ∧ (∀ l k, exec (.loadFault l k) t = .next t)
      ∧ (∀ l k, exec (.withdrawnLoadReturn l k) t = .next t)
      ∧ exec .completionWriteDone t = .next t ∧ exec .completionWriteError t = .next t
      ∧ exec .captureWriteDone t = .next t ∧ exec .captureWriteError t = .next t
      ∧ (∀ op, exec (.staleReturn op) t =
          .next { t with port := { t.port with bus := t.port.bus.filter fun o => o.id != op } })

/-- From a state whose registers are sound and which is empty outside ON, the bus error of a write in flight
answers a state in FAULT with cause 1 for the completion ring and 2 for the capture ring, every block as the
table of R162 says: producer index and head kept, timers stopped, flags, mask and thresholds kept, the FAULT
cause true. The note of a moved pin is a choice of the model (notes/assumptions/9.md, DESIGN CHOICE). Any
later return, the other write and its error included, changes nothing but the bus. Rests on: 10.3 Write errors
and the device FAULT; 7.4 The capture ring. -/
def Obligations.WriteErrorTakesDeviceToFault : Prop :=
  ∀ (s : State) (op : OpId) (c : Instr) (cause : FaultCause), OffIsEmpty s → WindowSound s →
    (c = .completionWriteError ∧ cause = .completionWrite ∧ s.completionRing.writing = some op)
      ∨ (c = .captureWriteError ∧ cause = .captureWrite ∧ s.captureRing.writing = some op) →
    ∃ t, exec c s = .next t ∧ WorkDropped s t
      ∧ t.window = { s.window with device := .fault, faultCause := cause }
      ∧ t.interrupt = { s.interrupt with
          completion := { s.interrupt.completion with timer := none }
          capture := { s.interrupt.capture with timer := none } }
      ∧ causeFault t = true ∧ t.lastLane = s.lastLane ∧ t.pending = s.pending
      ∧ t.port = { s.port with bus := s.port.bus.filter fun o => o.id != op }
      ∧ (∀ reply, exec (.setupReadReturn reply) t = .next t) ∧ (∀ l r, exec (.recordArrival l r) t = .next t)
      ∧ (∀ l, exec (.fetchBusError l) t = .next t) ∧ (∀ l, exec (.discardedFetchReturn l) t = .next t)
      ∧ (∀ l k d, exec (.loadReadReturn l k d) t = .next t) ∧ (∀ l k, exec (.loadFault l k) t = .next t)
      ∧ (∀ l k, exec (.withdrawnLoadReturn l k) t = .next t)
      ∧ exec .completionWriteDone t = .next t ∧ exec .completionWriteError t = .next t
      ∧ exec .captureWriteDone t = .next t ∧ exec .captureWriteError t = .next t
      ∧ (∀ op, exec (.staleReturn op) t =
          .next { t with port := { t.port with bus := t.port.bus.filter fun o => o.id != op } })

/-- START in ON completes. Each lane of the mask that is STOPPED or FAULTED is RUN afterwards, every other
lane keeps its run state, TRIPPED included, and CONTROL reads back the command. Nothing else changes but what
the Host Port issues in the same event: the consumer index, the staging entries, the held pins, the shadow
pace, the skip note and the retune outbox of every lane are as they were, and no lane left eligible goes
unread. Formalises R176. -/
def Obligations.StartReturnsLanesToRun : Prop :=
  ∀ (m : LaneMask) (s : State), s.window.device = .on →
    ∃ u t, exec (.start m) s = .next t ∧ PortFrame u t ∧ PortQuiet t
      ∧ u = { s with lanes := u.lanes
                     window := { s.window with control := BitVec.ofNat 32 (5 + 256 * m.toNat) } }
      ∧ ∀ l, u.lane l = { s.lane l with
          run := if m.getLsbD l = true ∧ ((s.lane l).run = .stopped ∨ (s.lane l).run = .faulted) then .run
                 else (s.lane l).run }

/-- ABORT in ON completes. On each lane of the mask in RUN, TRIPPED or FAULTED: the active entry retires
ABORTED unless it is RETIRING; staging entries follow in order, FAILED ones and marked loads keeping their
status and loads with a read in flight marked; the lane's request and claim leave their lists; its ready bits
clear; a shadow pace resolves ABORTED; every pin it owns is released; the skip count, when not 0, goes to the
skip note at the back of the staged entries or is added to one present, saturating; a live read becomes
discarded and its place is free; C is T; the lane is STOPPED. Every other lane is as it was. Then follow, in
the same event, one look of the allocator, one examination of the claims if pins were released, and the
requests and takings of the lanes in an order that is free. A released pin notes its earlier output
(notes/assumptions/9.md, DESIGN CHOICE). Formalises R175. -/
def Obligations.AbortWithdrawsAndSkips : Prop :=
  ∀ (m : LaneMask) (s : State), s.window.device = .on →
    let ls := allLanes.filter fun l => m.getLsbD l.val
      && decide ((s.lane l).run = .run ∨ (s.lane l).run = .tripped ∨ (s.lane l).run = .faulted)
    ∃ u work, exec (.abort m) s = .next (hostPort (settle (u, work)))
      ∧ Withdrawal .aborted ls
          (fun x =>
            let n := (x.tail + x.entries - x.consumer) % x.entries
            { x with
              run := .stopped, reserved := false, consumer := x.tail
              fetch := (match x.fetch with | .live op => .discarded op | f => f)
              skip := if n = 0 then x.skip
                else some (match x.skip with
                  | none => ⟨BitVec.ofNat 32 (min n (2 ^ 32 - 1)), x.staging.length⟩
                  | some k => ⟨BitVec.ofNat 32 (min (k.count.toNat + n) (2 ^ 32 - 1)), k.place⟩) })
          s u work
      ∧ u = { s with
          window := { s.window with control := BitVec.ofNat 32 (4 + 256 * m.toNat) }
          lanes := u.lanes, alloc := u.alloc, claims := u.claims, groups := u.groups, pins := u.pins
          choices := u.choices }

/-- Outside ON a SUBMIT sets REFUSED alone; in ON a tail of the lane's entries or more sets INDEX_ERROR alone;
a smaller tail replaces T whatever the run state, and nothing else changes but what the Host Port then issues;
a tail equal to the old one changes nothing. Formalises R142. -/
def Obligations.SubmitReplacesTail : Prop :=
  ∀ (l : LaneId) (tail : BitVec 12) (s : State), PortQuiet s →
    (s.window.device ≠ .on →
      exec (.submit l tail) s = .next { s with window := { s.window with refused := true } })
    ∧ (s.window.device = .on → (s.lane l).entries ≤ tail.toNat →
        exec (.submit l tail) s = .next { s with window := { s.window with indexError := true } })
    ∧ (s.window.device = .on → tail.toNat < (s.lane l).entries →
        ∃ u t, exec (.submit l tail) s = .next t ∧ PortFrame u t ∧ PortQuiet t
          ∧ u = { s with lanes := u.lanes }
          ∧ ∀ k, u.lane k = if k = l then { s.lane l with tail := tail.toNat } else s.lane k)
    ∧ (s.window.device = .on → tail.toNat < (s.lane l).entries → tail.toNat = (s.lane l).tail →
        exec (.submit l tail) s = .next s)

/-- For each ring: outside ON an ACKNOWLEDGE sets REFUSED alone. In ON, with the ring sound, a new head in the
range of slots from the old head to the producer index, counted modulo entries, is accepted and any other sets
INDEX_ERROR alone. An accepted head equal to the old one changes nothing. One that moves the head clears the
expired flag and stops the timer when U becomes 0, else restarts it for the holdoff (with holdoff 0 it does
not run); nothing else changes but what the Host Port then issues, the next write of a ring no longer full
among it. Formalises R124, R160. -/
def Obligations.AcknowledgeMovesHeads : Prop :=
  ∀ (head : BitVec 12) (s : State), PortQuiet s →
    (s.window.device ≠ .on →
      exec (.acknowledgeCompletion head) s = .next { s with window := { s.window with refused := true } }
      ∧ exec (.acknowledgeCapture head) s = .next { s with window := { s.window with refused := true } })
    ∧ ∀ (c : Instr) (r : RingWriter) (i : RingInterrupt) (moved : RingWriter → RingInterrupt → State),
        s.window.device = .on → r.sound →
        (c = .acknowledgeCompletion head ∧ r = s.completionRing ∧ i = s.interrupt.completion
            ∧ (∀ x y, moved x y =
                { s with completionRing := x, interrupt := { s.interrupt with completion := y } }))
          ∨ (c = .acknowledgeCapture head ∧ r = s.captureRing ∧ i = s.interrupt.capture
            ∧ (∀ x y, moved x y =
                { s with captureRing := x, interrupt := { s.interrupt with capture := y } })) →
        let u := (r.producer + r.entries - r.head) % r.entries
        let left := (r.producer + r.entries - head.toNat) % r.entries
        let inRange := ∃ k ≤ u, head.toNat = (r.head + k) % r.entries
        (¬ inRange → exec c s = .next { s with window := { s.window with indexError := true } })
        ∧ (head.toNat = r.head → exec c s = .next s)
        ∧ (inRange → head.toNat ≠ r.head →
            ∃ t, exec c s = .next t ∧ PortQuiet t
              ∧ PortFrame (moved { r with head := head.toNat }
                  { i with
                    expired := false
                    timer := if left = 0 ∨ s.interrupt.holdoff = 0 then none
                             else some (s.timebase + 100 * s.interrupt.holdoff.setWidth 48) }) t)

/-- A lane is eligible for a fetch exactly when the device is ON, it is RUN or TRIPPED, C differs from T, no
read is in flight for it and it has room. The Fetch Unit's turn reads slot C of the first eligible lane after
the one last served, reserves a place and makes the read live. A Loader's turn issues read k of its oldest
entry that is LOADING, unmarked, has no read in flight and reads left, with the address and length of R32. The
Completion Writer's turn writes the head of the Post Queue, 48 bytes at base + 48 P, with the phase; the
capture writer's the head of the FIFO, 16 bytes at base + 16 PC. Each becomes the last served. The Fetch Unit
presents exactly when some lane is eligible, a Loader exactly when in ON it has such an entry, and each writer
exactly when in ON it has a record, its ring is not full and no write is in flight. Rests on: 9.3 Choosing a
lane and issuing a read; 2.4 Loading; 10.2 The completion ring writer; 7.4 The capture ring; 10.4 The Host
Port. -/
def Obligations.RequestersIssueTheirOperations : Prop :=
  (∀ (s : State) (l : LaneId), eligible s l = true ↔
    s.window.device = .on ∧ ((s.lane l).run = .run ∨ (s.lane l).run = .tripped)
    ∧ (s.lane l).consumer ≠ (s.lane l).tail ∧ (s.lane l).fetch = .none
    ∧ (s.lane l).staging.length + (if (s.lane l).reserved then 1 else 0) < 4
    ∧ (s.lane l).skip = none ∧ (s.lane l).outbox = [])
  ∧ (∀ (s : State) (l : LaneId) (k : Fin 4), l = s.lastLane + 1 + k → eligible s l = true →
      (∀ j < k, eligible s (s.lastLane + 1 + j) = false) →
      ∃ t, issueTurn .fetch s = t
        ∧ t = { s with
            lanes := t.lanes, lastLane := l
            port := {
              lastServed := .fetch, nextOp := s.port.nextOp + 1
              bus := s.port.bus ++ [⟨s.port.nextOp, .fetch l,
                (s.lane l).base + BitVec.ofNat 64 (64 * (s.lane l).consumer), 64, []⟩] } }
        ∧ ∀ j, t.lane j = if j = l then { s.lane l with fetch := .live s.port.nextOp, reserved := true }
                          else s.lane j)
  ∧ (∀ (s : State) (l : LaneId) (older younger : List Entry) (e : Entry),
      (s.lane l).staging = older ++ e :: younger →
      (e.state = .loading ∧ e.status = none ∧ e.reading = none ∧ e.issued < e.blocks.length) →
      (∀ x ∈ older, ¬(x.state = .loading ∧ x.status = none ∧ x.reading = none ∧ x.issued < x.blocks.length)) →
      ∃ t, issueTurn (.loader l) s = t
        ∧ t = { s with
            lanes := t.lanes
            port := {
              lastServed := .loader l, nextOp := s.port.nextOp + 1
              bus := s.port.bus ++ [⟨s.port.nextOp, .load l,
                (burstOf e.record).vectorAddress + BitVec.ofNat 64 (256 * e.issued),
                16 * min 16 ((burstOf e.record).vectorCount - 16 * e.issued), []⟩] } }
        ∧ ∀ j, t.lane j = if j = l then { s.lane l with staging :=
              older ++ { e with issued := e.issued + 1, reading := some s.port.nextOp } :: younger }
            else s.lane j)
  ∧ (∀ (s : State) (i : PostItem) (rest : List PostItem), s.post.items = i :: rest →
      issueTurn .completion s = { s with
        completionRing := { s.completionRing with writing := some s.port.nextOp }
        port := {
          lastServed := .completion, nextOp := s.port.nextOp + 1
          bus := s.port.bus ++ [⟨s.port.nextOp, .completion,
            s.completionRing.base + BitVec.ofNat 64 (48 * s.completionRing.producer), 48,
            i.record.bytes s.completionRing.phase⟩] } })
  ∧ (∀ (s : State) (c : CaptureRecord) (rest : List CaptureRecord), s.capture.fifo = c :: rest →
      issueTurn .capture s = { s with
        captureRing := { s.captureRing with writing := some s.port.nextOp }
        port := {
          lastServed := .capture, nextOp := s.port.nextOp + 1
          bus := s.port.bus ++ [⟨s.port.nextOp, .capture,
            s.captureRing.base + BitVec.ofNat 64 (16 * s.captureRing.producer), 16,
            c.bytes s.captureRing.phase⟩] } })
  ∧ ∀ s : State,
      let canWrite (r : RingWriter) : Prop :=
        s.window.device = .on ∧ (r.producer + 1) % r.entries ≠ r.head ∧ r.writing = none
      (presents s .fetch = true ↔ ∃ l, eligible s l = true)
      ∧ (∀ l, presents s (.loader l) = true ↔ s.window.device = .on ∧ ∃ e ∈ (s.lane l).staging,
          e.state = .loading ∧ e.status = none ∧ e.reading = none ∧ e.issued < e.blocks.length)
      ∧ (presents s .completion = true ↔ canWrite s.completionRing ∧ s.post.items ≠ [])
      ∧ (presents s .capture = true ↔ canWrite s.captureRing ∧ s.capture.fifo ≠ [])

/-- HOST_PORT_TURN completes; it leaves nothing presenting, changes nothing but what its turns issue, and
changes nothing at all when nothing presents. While some requester presents, the turns go first to the first
presenting one in cyclic order after the last served, and then on from the state that turn left. After every
command that answers a next state, and after every step from a state in which nothing presents, nothing
presents. Rests on: 10.4 The Host Port. -/
def Obligations.HostPortServesUntilNobodyPresents : Prop :=
  (∀ s : State, ∃ t, exec .hostPortTurn s = .next t ∧ PortFrame s t ∧ PortQuiet t ∧ (PortQuiet s → t = s))
  ∧ (∀ (s : State) (before after : List Requester) (r : Requester),
      turnOrder s.port.lastServed = before ++ r :: after → (∀ q ∈ before, presents s q = false) →
      presents s r = true → exec .hostPortTurn s = exec .hostPortTurn (issueTurn r s))
  ∧ (∀ last : Requester,
      (turnOrder last).map Requester.index = (List.range 7).map fun j => (last.index + 1 + j) % 7)
  ∧ (∀ (c : Instr) (s t : State), exec c s = .next t → PortQuiet t)
  ∧ ∀ s t : State, PortQuiet s → step s = .next t → PortQuiet t

/-- RECORD_ARRIVAL for a lane's live read completes. C advances by 1 modulo entries, read in flight is none
and the reserved place is free. In RUN a RETUNE that passes its checks becomes the shadow pace, superseding
one already there, and one that fails goes to the retune outbox with BAD_RECORD; in TRIPPED every RETUNE goes
there with TRIP_DISCARD. Any other record joins the back of staging: in RUN a valid BURST in WAIT_BLOCKS,
another valid record READY, an invalid one FAILED with BAD_RECORD; in TRIPPED a RESUME READY or FAILED with
BAD_RECORD, anything else FAILED with TRIP_DISCARD. A waiting BURST places the lane's request if none is
outstanding. Nothing else changes but the work that follows, whose order is the model's
(notes/assumptions/4.md, DESIGN CHOICE). Rests on: 1.3 The staging queue; 9.4 Arrival and the checks. -/
def Obligations.RecordArrivesByRunState : Prop :=
  ∀ (l : LaneId) (r : Bytes 64) (op : OpId) (s : State), (s.lane l).fetch = .live op →
    (s.lane l).run = .run ∨ (s.lane l).run = .tripped →
    let x := s.lane l
    let y := { x with consumer := (x.consumer + 1) % x.entries, fetch := .none, reserved := false }
    let entry (state : EntryState) (status : Option Status) : Entry :=
      { kind := recordKind r, record := r, state := state, status := status, blocks := [], issued := 0
        reading := none }
    let discard (status : Status) : List Completion :=
      ({ x with shadow := some ⟨0, 0, recordTag r, s.timebase⟩ } : LaneState).shadowCompletion l status s.timebase
    ∃ u work, exec (.recordArrival l r) s = .next (hostPort (settle (u, work)))
      ∧ u = { s with lanes := u.lanes, alloc := u.alloc
                     port := { s.port with bus := s.port.bus.filter fun o => o.id != op } }
      ∧ u.alloc.free = s.alloc.free
      ∧ (∀ k, k ≠ l → u.lane k = s.lane k)
      ∧ (recordKind r = 2 → u.alloc = s.alloc
          ∧ u.lane l =
              (if x.run = .tripped then { y with outbox := x.outbox ++ discard .tripDiscard }
               else if recordValid r = true then
                { y with
                  shadow := some ⟨retunePaceInteger r, retunePaceFraction r, recordTag r, s.timebase⟩
                  outbox := x.outbox ++ x.shadowCompletion l .superseded s.timebase }
               else { y with outbox := x.outbox ++ discard .badRecord })
          ∧ work = if (u.lane l).outbox ≠ [] ∧ x.outbox = [] then [.ask (.retune l)] else [])
      ∧ (recordKind r ≠ 2 →
          let e :=
            if x.run = .tripped ∧ recordKind r ≠ 5 then entry .failed (some .tripDiscard)
            else if recordValid r = false then entry .failed (some .badRecord)
            else if recordKind r = 1 then entry .waitBlocks none
            else entry .ready none
          u.lane l = { y with staging := x.staging ++ [e] }
          ∧ (if e.state = .waitBlocks ∧ ∀ q ∈ s.alloc.queue, q.lane ≠ l then
              ∃ w, (x.staging ++ [e]).find? (fun z => z.state == .waitBlocks) = some w
                ∧ u.alloc.queue = s.alloc.queue ++ [⟨l, ((burstOf w.record).vectorCount + 15) / 16⟩]
                ∧ work = [.look, .take l]
             else u.alloc = s.alloc ∧ work = [.take l]))

/-- A record of kind 1 passes exactly when every row of the table of R147 lets it; one of kind 2 when I is at
least 2, F at most 31 and every other byte but kind and tag is 0; one of kind 3 when its start mode is at most
1 and every byte but kind, start mode, tag and start time is 0; one of kind 4 or 5 when every byte but kind
and tag is 0; one of any other kind never. A field is read least significant byte first, and every field of a
BURST, its five flags, start and loop mode, and the fields of the other kinds are read at the offsets and
sizes of the layouts. Formalises R147, R148, R178. -/
def Obligations.RecordChecksFollowTheTables : Prop :=
  (∀ (n w off k : Nat) (d : Bytes n) (h : off + k / 8 < n), w % 8 = 0 → k < w →
    (field w off d).getLsbD k = (d.get ⟨off + k / 8, h⟩).getLsbD (k % 8))
  ∧ (∀ r : Bytes 64,
    let b := burstOf r
    let flag (k : Nat) : Bool := (field 8 1 r).getLsbD k
    (b.stopOnFail = flag 0 ∧ b.holdPins = flag 1 ∧ b.waitPins = flag 2 ∧ b.compareInvert = flag 3
      ∧ b.timedGroup = flag 4)
    ∧ ((field 8 2 r = 0 → b.startMode = .immediate) ∧ (field 8 2 r = 1 → b.startMode = .atTime)
      ∧ (field 8 2 r = 2 → b.startMode = .group))
    ∧ ((field 8 3 r = 0 → b.loopMode = .none) ∧ (field 8 3 r = 1 → b.loopMode = .wrap)
      ∧ (field 8 3 r = 2 → b.loopMode = .bounce))
    ∧ b.vectorAddress = field 64 8 r ∧ b.startTime = field 48 16 r
    ∧ ((field 8 22 r).toNat ≤ 7 → b.group.val = (field 8 22 r).toNat)
    ∧ (∀ l : LaneId, inMask b.member l = (field 8 23 r).getLsbD l.val)
    ∧ b.waitLimit = field 32 24 r ∧ b.strobeOffset = field 16 28 r ∧ b.gateLimit = field 16 30 r
    ∧ b.drive = field 48 32 r ∧ b.sense = field 48 38 r ∧ b.care = field 48 44 r
    ∧ b.vectorCount = (field 16 50 r).toNat ∧ b.loopStart = (field 16 52 r).toNat
    ∧ b.loopEnd = (field 16 54 r).toNat ∧ b.passes = (field 16 56 r).toNat
    ∧ b.paceInteger = field 16 58 r ∧ b.paceFraction = field 8 60 r
    ∧ recordKind r = field 8 0 r ∧ recordTag r = field 32 4 r
    ∧ markStartCode r = field 8 2 r ∧ markTime r = field 48 16 r
    ∧ retunePaceInteger r = field 16 58 r ∧ retunePaceFraction r = field 8 60 r)
  ∧ ∀ r : Bytes 64,
    (recordKind r = 1 → (recordValid r = true ↔
      let b := burstOf r
      (field 8 1 r).toNat < 32 ∧ BytesZero 61 3 r ∧ (field 8 2 r).toNat ≤ 2 ∧ (field 8 3 r).toNat ≤ 2
      ∧ 1 ≤ (field 16 50 r).toNat ∧ (field 16 50 r).toNat ≤ 1024 ∧ (field 64 8 r).toNat % 16 = 0
      ∧ (field 48 32 r ≠ 0 ∨ field 48 38 r ≠ 0)
      ∧ (∀ n < 48, (field 48 44 r).getLsbD n = true → (field 48 38 r).getLsbD n = true)
      ∧ (field 8 3 r ≠ 0 → b.loopStart ≤ b.loopEnd ∧ b.loopEnd < b.vectorCount)
      ∧ (field 8 3 r = 2 → b.loopStart ≠ b.loopEnd)
      ∧ (field 8 3 r = 0 → (field 16 56 r).toNat = 0)
      ∧ 2 ≤ (field 16 58 r).toNat ∧ (field 8 60 r).toNat ≤ 31
      ∧ (field 16 28 r).toNat < (field 16 58 r).toNat
      ∧ ((field 8 1 r).getLsbD 2 = true ∨ field 8 2 r = 2 → field 32 24 r ≠ 0)
      ∧ (if field 8 2 r = 2 then (field 8 22 r).toNat ≤ 7 else field 8 22 r = 0)
      ∧ (if field 8 2 r = 2 then field 8 23 r ≠ 0 ∧ (field 8 23 r).toNat < 16 else field 8 23 r = 0)
      ∧ ((field 8 1 r).getLsbD 4 = true → field 8 2 r = 2)))
    ∧ (recordKind r = 2 → (recordValid r = true ↔
        2 ≤ (field 16 58 r).toNat ∧ (field 8 60 r).toNat ≤ 31
        ∧ ∀ j : Fin 64, r.get j ≠ 0 → j.val = 0 ∨ (4 ≤ j.val ∧ j.val ≤ 7) ∨ (58 ≤ j.val ∧ j.val ≤ 60)))
    ∧ (recordKind r = 3 → (recordValid r = true ↔
        (field 8 2 r).toNat ≤ 1
        ∧ ∀ j : Fin 64, r.get j ≠ 0 →
            j.val = 0 ∨ j.val = 2 ∨ (4 ≤ j.val ∧ j.val ≤ 7) ∨ (16 ≤ j.val ∧ j.val ≤ 21)))
    ∧ (recordKind r = 4 ∨ recordKind r = 5 → (recordValid r = true ↔
        ∀ j : Fin 64, r.get j ≠ 0 → j.val = 0 ∨ (4 ≤ j.val ∧ j.val ≤ 7)))
    ∧ (recordKind r = 0 ∨ 6 ≤ (recordKind r).toNat → recordValid r = false)

/-- FETCH_BUS_ERROR for a live read completes: C holds, the read is gone, the lane is FAULTED, and the
reserved slot becomes a FAILED entry with kind 10 and status FETCH_FAULT behind the staged ones. The return of
a discarded read, whichever of the three rows brings it (notes/assumptions/14.md, DESIGN CHOICE), leaves read
in flight none and changes nothing else but what the Host Port then issues. STALE_RETURN of an operation that
no request awaits takes it off the bus and changes nothing else. Rests on: 9.5 Fetch bus errors and the
FAULTED lane; 9.6 Skipping on ABORT; 10.4 The Host Port; 1.2 Run states. -/
def Obligations.FetchFailuresAndDroppedReturns : Prop :=
  (∀ (l : LaneId) (op : OpId) (s : State), (s.lane l).fetch = .live op →
    ∃ u work, exec (.fetchBusError l) s = .next (hostPort (settle (u, work))) ∧ work = [.take l]
      ∧ u = { s with lanes := u.lanes, port := { s.port with bus := s.port.bus.filter fun o => o.id != op } }
      ∧ ∀ k, u.lane k =
          if k = l then { s.lane l with
            run := .faulted, fetch := .none, reserved := false
            staging := (s.lane l).staging ++
              [{ kind := 10, record := Vector.replicate 64 0, state := .failed, status := some .fetchFault
                 blocks := [], issued := 0, reading := none }] }
          else s.lane k)
  ∧ (∀ (l : LaneId) (op : OpId) (c : Instr) (s : State), (s.lane l).fetch = .discarded op →
      (c = .discardedFetchReturn l ∨ c = .fetchBusError l ∨ ∃ r, c = .recordArrival l r) →
      ∃ u t, exec c s = .next t ∧ PortFrame u t ∧ PortQuiet t
        ∧ u = { s with lanes := u.lanes, port := { s.port with bus := s.port.bus.filter fun o => o.id != op } }
        ∧ ∀ k, u.lane k = if k = l then { s.lane l with fetch := .none } else s.lane k)
  ∧ ∀ (op : OpId) (s : State), PortQuiet s → (∀ r, s.window.setupRead = some r → r.op ≠ op) →
      (∀ l, (s.lane l).fetch ≠ .live op ∧ (s.lane l).fetch ≠ .discarded op
        ∧ ∀ e ∈ (s.lane l).staging, e.reading ≠ some op) →
      s.completionRing.writing ≠ some op → s.captureRing.writing ≠ some op →
      exec (.staleReturn op) s =
        .next { s with port := { s.port with bus := s.port.bus.filter fun o => o.id != op } }

/-- LOAD_READ_RETURN and LOAD_FAULT for a LOADING entry with a read in flight complete. Unmarked and without a
bus error: when every vector the read carries has valid attributes, they are written to positions 0 onward of
the read's block, where the play engine reads them back as vectors (a vector's hold count is bits 0 to 9 of
its attributes, STROBE bit 10, GATE bit 11, GATE_ON_DIFF bit 12), every other byte of the store is as it was,
and the entry is READY after its last read; when one is invalid the entry fails with BAD_VECTOR. Unmarked with
a bus error it fails with LOAD_FAULT. Marked, whichever of the three rows brings the return
(notes/assumptions/14.md, DESIGN CHOICE), its data is discarded and it fails with the withdrawal status. A
failed entry holds no blocks: they are at the back of the free list, and the allocator looks. The store
changes only in the first case. The order of the work that follows is the model's (notes/assumptions/4.md,
DESIGN CHOICE). Rests on: 2.4 Loading; 2.5 Withdrawal of a load; 2.2 The free list; 12.3 The vector. -/
def Obligations.LoadReadsReturn : Prop :=
  (∀ v : Vec, v.hold = v.attributes.toNat % 1024 ∧ v.strobe = v.attributes.getLsbD 10
    ∧ v.gate = v.attributes.getLsbD 11 ∧ v.gateOnDiff = v.attributes.getLsbD 12)
  ∧ ∀ (l : LaneId) (k : Fin 4) (e : Entry) (op : OpId) (s : State), (s.lane l).staging[k.val]? = some e →
    e.state = .loading → e.reading = some op →
    let b := burstOf e.record
    let n := min 16 (b.vectorCount - 16 * (e.issued - 1))
    let bus := s.port.bus.filter fun o => o.id != op
    let replaced (u : State) (x : Entry) : Prop :=
      ∀ j, u.lane j = if j = l then { s.lane l with staging := (s.lane l).staging.set k.val x } else s.lane j
    let fails (c : Instr) (status : Status) : Prop :=
      ∃ u work, exec c s = .next (hostPort (settle (u, work))) ∧ work = [.look, .take l]
        ∧ u = { s with lanes := u.lanes, port := { s.port with bus := bus }
                       alloc := { s.alloc with free := s.alloc.free ++ e.blocks } }
        ∧ replaced u { e with state := .failed, status := some status, blocks := [], reading := none }
    (e.status = none → fails (.loadFault l k) .loadFault)
    ∧ (∀ w, e.status = some w → fails (.withdrawnLoadReturn l k) w ∧ fails (.loadFault l k) w
        ∧ ∀ d, fails (.loadReadReturn l k d) w)
    ∧ ∀ d : Bytes 256, e.status = none →
        let valid := ∀ i < n,
          let a := (field 32 (16 * i + 12) d).toNat
          a < 2 ^ 13 ∧ (a / 2 ^ 11 % 2 = 1 → a / 2 ^ 10 % 2 = 0 ∧ a % 2 ^ 10 = 0 ∧ b.gateLimit ≠ 0)
        (¬ valid → fails (.loadReadReturn l k d) .badVector)
        ∧ (valid → ∀ block, e.blocks[e.issued - 1]? = some block → StoreCanonical s →
            ∃ u work, exec (.loadReadReturn l k d) s = .next (hostPort (settle (u, work))) ∧ work = [.take l]
              ∧ u = { s with lanes := u.lanes, store := u.store, port := { s.port with bus := bus } }
              ∧ replaced u { e with
                  reading := none, state := if e.issued < e.blocks.length then .loading else .ready }
              ∧ (∀ j < n, vectorOf u.store e.blocks (16 * (e.issued - 1) + j) = some
                  { drive := field 48 (16 * j) d, expect := field 48 (16 * j + 6) d
                    attributes := field 32 (16 * j + 12) d })
              ∧ ∀ a, storeRead u.store a =
                  if h : 256 * block ≤ a ∧ a < 256 * block + 16 * n ∧ a - 256 * block < 256 then
                    d.get ⟨a - 256 * block, h.2.2⟩
                  else storeRead s.store a)

/-- COMPLETION_WRITE_DONE with a write in flight completes. The head record leaves the Post Queue; P advances
modulo entries and the phase inverts on the wrap to 0; write in flight clears; the holdoff timer restarts when
U was 0 and the holdoff is not 0. For a general record the freed entry goes to the oldest waiting port, in the
same event, and to nobody when none waits. For a TRIP record the set's carry, if present, becomes a new record
at the back with the carry's fields, and the carry is gone; no port is granted. CAPTURE_WRITE_DONE with a
write in flight completes in the same way on the capture FIFO and ring, and nothing else changes but what the
Host Port then issues, the next capture write among it. Rests on: 10.2 The completion ring writer; 10.1 The
Post Queue; 8.4 The TRIP record; 10.5 Interrupt moderation; 7.4 The capture ring. -/
def Obligations.WriteDoneAdvancesRing : Prop :=
  (∀ (s : State) (op : OpId) (i : PostItem) (rest : List PostItem),
    s.completionRing.writing = some op → s.post.items = i :: rest →
    let r := s.completionRing
    let p := (r.producer + 1) % r.entries
    let v : State := { s with
      port := { s.port with bus := s.port.bus.filter fun o => o.id != op }
      post := { s.post with items := rest }
      completionRing := { r with producer := p, phase := if p = 0 then !r.phase else r.phase, writing := none }
      interrupt := { s.interrupt with completion := { s.interrupt.completion with
        timer := if (r.producer + r.entries - r.head) % r.entries = 0 ∧ s.interrupt.holdoff ≠ 0 then
            some (s.timebase + 100 * s.interrupt.holdoff.setWidth 48)
          else s.interrupt.completion.timer } } }
    (i.source = .general → s.post.waiting = [] → exec .completionWriteDone s = .next (hostPort v))
    ∧ (∀ port ports, i.source = .general → s.post.waiting = port :: ports →
        exec .completionWriteDone s =
          .next (hostPort (settle (grantPort port { v with post := { v.post with waiting := ports } }))))
    ∧ (∀ set, i.source = .trip set → (s.trip set).carry = none →
        exec .completionWriteDone s = .next (hostPort v))
    ∧ ∀ set c, i.source = .trip set → (s.trip set).carry = some c →
        ∃ u, exec .completionWriteDone s = .next (hostPort u)
          ∧ u = { v with trips := u.trips, post := { v.post with items := rest ++ [⟨.trip set,
              { tag := 0, lane := 15, kind := 8, status := .tripped, late := false, pinsHeld := false
                grouped := false, stats := ⟨0, 0, 0, 0, 0⟩, startTime := c.first, endTime := c.last
                detail := .trip c.lanes set c.count }⟩] } }
          ∧ ∀ j, u.trip j = if j = set then { s.trip set with carry := none } else s.trip j)
  ∧ ∀ (s : State) (op : OpId), s.captureRing.writing = some op →
    let r := s.captureRing
    let p := (r.producer + 1) % r.entries
    ∃ t, exec .captureWriteDone s = .next t ∧ PortQuiet t
      ∧ PortFrame { s with
          port := { s.port with bus := s.port.bus.filter fun o => o.id != op }
          capture := { s.capture with fifo := s.capture.fifo.drop 1 }
          captureRing := { r with producer := p, phase := if p = 0 then !r.phase else r.phase, writing := none }
          interrupt := { s.interrupt with capture := { s.interrupt.capture with
            timer := if (r.producer + r.entries - r.head) % r.entries = 0 ∧ s.interrupt.holdoff ≠ 0 then
                some (s.timebase + 100 * s.interrupt.holdoff.setWidth 48)
              else s.interrupt.capture.timer } } } t

/-- While the head's need is at most the free count, the look takes the first need blocks of the free list, in
order, as the block list of the lane's oldest entry in WAIT_BLOCKS, which is then LOADING with no read issued;
the request leaves the queue; the lane's next WAIT_BLOCKS entry places its request at the back; and the look
goes on from there. A head that does not fit stays, and so does every request behind it and the free list. The
look ends with the queue empty or its head not fitting. Formalises R30. -/
def Obligations.AllocatorGrantsHeadWhileItFits : Prop :=
  (∀ s : State, (allocLook s).alloc.queue = []
    ∨ ∃ r rest, (allocLook s).alloc.queue = r :: rest ∧ (allocLook s).alloc.free.length < r.need)
  ∧ (∀ (s : State) (r : AllocRequest) (rest : List AllocRequest) (older younger : List Entry) (e : Entry),
      s.alloc.queue = r :: rest → (s.lane r.lane).staging = older ++ e :: younger → e.state = .waitBlocks →
      (∀ x ∈ older, x.state ≠ .waitBlocks) →
      (s.alloc.free.length < r.need → allocLook s = s)
      ∧ (r.need ≤ s.alloc.free.length →
          ∃ u, allocLook s = allocLook u
            ∧ u = { s with lanes := u.lanes, alloc := u.alloc }
            ∧ (∀ k, u.lane k = if k = r.lane then { s.lane r.lane with staging :=
                  older ++ { e with state := .loading, blocks := s.alloc.free.take r.need, issued := 0
                                    reading := none } :: younger }
                else s.lane k)
            ∧ u.alloc.free = s.alloc.free.drop r.need
            ∧ u.alloc.queue = rest ++
                (if ∃ q ∈ rest, q.lane = r.lane then []
                 else match younger.find? (fun x => x.state == .waitBlocks) with
                  | none => []
                  | some x => [⟨r.lane, ((burstOf x.record).vectorCount + 15) / 16⟩])))
  ∧ ∀ s : State, s.alloc.queue = [] → allocLook s = s

/-- A lane whose active entry is a BURST in CLAIMING presents its claim. When every pin of its set is unowned
or its own, the claim is granted: its pins outside the set are released, each pin of the set is owned with the
role of the masks, not held, SENSE pins float and the others keep their output; the entry leaves CLAIMING by
its start mode, GROUP by an arrival that waits in the group or retires with GROUP_MISMATCH; and the wait list
is examined if pins were released. Otherwise, with WAIT_PINS the claim joins the back of the wait list with
its expiry at the tick of taking plus the wait limit, and without it the entry retires with PIN_CONFLICT and
no pin changes. The order of the work that follows and the note of a moved pin are the model's
(notes/assumptions/4.md and 9.md, DESIGN CHOICE). Rests on: 3.3 Claims; 3.1 The pin entry; 1.4 The active
context; 4.2 Arrival; 6.2 Due times. -/
def Obligations.ClaimsAreGrantedRefusedOrWait : Prop :=
  ∀ (l : LaneId) (a : Active) (s : State), (s.lane l).active = some a → a.context = .claiming →
    let b := burstOf a.record
    let inSet (n : PinId) : Prop := b.drive.getLsbD n = true ∨ b.sense.getLsbD n = true
    let free := ∀ n : PinId, inSet n → (s.pin n).owner = none ∨ (s.pin n).owner = some l
    (¬ free → b.waitPins = true → presentClaim l a s =
      ({ s with claims := s.claims ++ [⟨l, b.drive, b.sense, s.timebase + b.waitLimit.setWidth 48⟩] }, []))
    ∧ (¬ free → b.waitPins = false → ∃ u work, presentClaim l a s = (u, work)
        ∧ Retires l a .pinConflict s u work)
    ∧ (free → ∃ g u work, g = { s with pins := g.pins }
        ∧ (∀ n : PinId,
            (inSet n →
              let role : Role := if b.drive.getLsbD n = false then .sense
                else if b.sense.getLsbD n = false then .drive else .both
              g.pin n = { s.pin n with
                owner := some l, role := some role, held := false
                output := if role = .sense then .float else (s.pin n).output
                earlier := (s.pin n).noted (if role = .sense then .float else (s.pin n).output) })
            ∧ (¬ inSet n → g.pin n = if (s.pin n).owner = some l then (s.pin n).released else s.pin n))
        ∧ presentClaim l a s = (u, work ++
            (if ∃ n : PinId, (s.pin n).owner = some l
                ∧ ¬(b.drive.getLsbD n = true ∨ b.sense.getLsbD n = true) then [.examine] else []))
        ∧ LeavesClaiming l a g u work)

/-- After an examination of the claim wait list every claim still waiting has a pin of its set owned by
another lane, the claims that stay keep their order, and the lanes handed a grant are those of the claims that
left. A pass takes the claims oldest first: one that is compatible on the pins as the grants before it left
them is granted, one that is not keeps its place, and the pass goes on with the younger ones. The examination
is one pass, and then the examination of what stays if a grant of the pass released pins. Nothing but pins and
the list changes in it. The granted lanes are then handed their grants in the same event, in a free order: a
BURST in CLAIMING leaves it by its start mode, as ClaimsAreGrantedRefusedOrWait says, and a lane without one
is left alone. Rests on: 3.4 The claim wait list; 3.3 Claims; 1.4 The active context; 4.2 Arrival. -/
def Obligations.ExaminationGrantsEveryClaimThatFits : Prop :=
  (∀ s : State,
    let t := (examineClaims s).1
    t = { s with pins := t.pins, claims := t.claims } ∧ t.claims.Sublist s.claims
    ∧ (t.claims.map Claim.lane ++ (examineClaims s).2).Perm (s.claims.map Claim.lane)
    ∧ ∀ c ∈ t.claims, ∃ (n : PinId) (l : LaneId), (c.drive ||| c.sense).getLsbD n = true
        ∧ (t.pin n).owner = some l ∧ l ≠ c.lane)
  ∧ (∀ (s : State) (c : Claim) (rest : List Claim),
      let free := ∀ n : PinId, (c.drive ||| c.sense).getLsbD n = true →
        (s.pin n).owner = none ∨ (s.pin n).owner = some c.lane
      (free → examinePass (c :: rest) s =
        let r := examinePass rest (grantClaim c.lane c.drive c.sense s)
        (r.1, c.lane :: r.2.1, decide (∃ n : PinId, (s.pin n).owner = some c.lane
          ∧ (c.drive ||| c.sense).getLsbD n = false) || r.2.2))
      ∧ (¬ free → examinePass (c :: rest) s =
        let r := examinePass rest s
        ({ r.1 with claims := c :: r.1.claims }, r.2.1, r.2.2)))
  ∧ (∀ s : State, examinePass [] s = ({ s with claims := [] }, [], false))
  ∧ (∀ s : State, examineClaims s =
      let r := examinePass s.claims s
      if r.2.2 = true then ((examineClaims r.1).1, r.2.1 ++ (examineClaims r.1).2) else (r.1, r.2.1))
  ∧ (∀ s : State, ∃ (order : List LaneId) (n : Nat), order.Perm (examineClaims s).2
      ∧ runTask .examine s = ({ (examineClaims s).1 with choices := n }, order.map .granted))
  ∧ (∀ (l : LaneId) (s : State), (∀ a, (s.lane l).active = some a → a.context ≠ .claiming) →
      runTask (.granted l) s = (s, []))
  ∧ ∀ (l : LaneId) (a : Active) (s : State), (s.lane l).active = some a → a.context = .claiming →
      ∃ u work, runTask (.granted l) s = (u, work) ∧ LeavesClaiming l a s u work

/-- At the tick at which a waiting claim expires, CLAIM_TIMEOUT completes: the claim leaves the list and the
BURST in CLAIMING retires with CLAIM_TIMEOUT, no pin changed. At the tick at which a MARK's TIME_WAIT ends,
MARK_DUE completes: the MARK retires with OK. The work an event calls for is carried out until none is left,
the work each piece calls for joining at the back: ports ask, lanes take their front items, granted lanes
leave CLAIMING, first in, first out (notes/assumptions/4.md, DESIGN CHOICE); when only examinations and looks
are left, one examination of the wait list for all that were called for, so that every release of the event is
done (its grants: ExaminationGrantsEveryClaimThatFits); last one look of the allocator. Whatever the work, it
and the Host Port leave registers, timebase, store, input side, trip sets, rings, interrupt logic, shadow
paces and queued records as EventFrame says. A retired entry is then RETIRING with its status and end time and
its port among the waiting posters, or its record with its tag, lane, kind, status, flags, statistics and
times is in the Post Queue; its blocks are free or granted on. A released pin notes its earlier output
(notes/assumptions/9.md, DESIGN CHOICE). Rests on: 3.4 The claim wait list; 1.4 The active context; 1.5
Retirement; 6.2 Due times; 2.2 The free list; 2.3 The allocation wait queue; 3.5 Release and held pins; 10.1
The Post Queue; 1.3 The staging queue. -/
def Obligations.WaitsEndAtTheirTick : Prop :=
  (∀ (l : LaneId) (c : Claim) (a : Active) (s : State), c ∈ s.claims → c.lane = l → c.expiry = s.timebase →
    (s.lane l).active = some a → a.context = .claiming →
    ∃ u work, exec (.claimTimeout l) s = .next (hostPort (settle (u, work)))
      ∧ Retires l a .claimTimeout { s with claims := s.claims.filter fun x => x.lane != l } u work)
  ∧ (∀ (l : LaneId) (late : Bool) (a : Active) (s : State), (s.lane l).active = some a → a.kind = 3 →
      a.context = .timeWait s.timebase late →
      ∃ u work, exec (.markDue l) s = .next (hostPort (settle (u, work))) ∧ Retires l a .ok s u work)
  ∧ (∀ (l : LaneId) (a : Active) (status : Status) (s u : State) (work : List Task), Retires l a status s u work →
      Retired l a status s.timebase (hostPort (settle (u, work))) ∧ Freed a.blocks (hostPort (settle (u, work)))
      ∧ EventFrame s (hostPort (settle (u, work))))
  ∧ (∀ s : State, settle (s, []) = s)
  ∧ (∀ (x : Task) (pre post : List Task) (s : State), x ≠ .look → x ≠ .examine →
      (∀ y ∈ pre, y = .look ∨ y = .examine) →
      settle (s, pre ++ x :: post) = settle ((runTask x s).1, pre ++ post ++ (runTask x s).2))
  ∧ (∀ (ts : List Task) (s : State), (∀ y ∈ ts, y = .look ∨ y = .examine) → .examine ∈ ts →
      settle (s, ts) = settle ((examine s).1, ts.filter (· ≠ .examine) ++ (examine s).2))
  ∧ (∀ (ts : List Task) (s : State), (∀ y ∈ ts, y = .look) → ts ≠ [] → settle (s, ts) = allocLook s)
  ∧ (∀ s : State, runTask .look s = (allocLook s, []) ∧ runTask .examine s = examine s
      ∧ (∀ p, runTask (.ask p) s = askPort p s) ∧ ∀ l, runTask (.take l) s = takeFront l s)
  ∧ ∀ (s : State) (work : List Task), EventFrame s (hostPort (settle (s, work)))

/-- An arrival at an IDLE group is accepted exactly when the lane is in the burst's member mask; the group
then takes its fields from it, with the lane alone ready, and the deadline at now plus the wait limit. One at
a FORMING group is accepted exactly when member mask, timed flag and, both timed, start time are the group's
and the lane is a member; the lane's ready bit is set and no other field moves. One at a COMMITTED group is
refused. A group whose ready mask then equals its member mask commits in the same event: it starts at the
start time when timed and not due, else at the next tick, late exactly when timed. A COMMITTED group has no
deadline. The arrival of a BURST carries the member mask of its record, the TIMED_GROUP flag, the wait limit,
and the start time when the flag is set; clear, the model carries 0. Formalises R61, R62, R63, R65. -/
def Obligations.GroupsAnswerArrivalsAndCommit : Prop :=
  (∀ (g : Group) (l : LaneId) (a : Arrival) (now : Tick), g.state = .idle →
    (inMask a.member l = false → g.arrive l a now = none)
    ∧ (inMask a.member l = true → g.arrive l a now = some (
        let formed : Group :=
          { state := .forming, member := a.member, ready := BitVec.twoPow 4 l.val, timed := a.timed
            startTime := a.startTime, firstArrival := now, window := a.waitLimit
            deadline := now + a.waitLimit.setWidth 48, startTick := 0, late := false }
        if a.member = BitVec.twoPow 4 l.val then formed.commit now else formed)))
  ∧ (∀ (g : Group) (l : LaneId) (a : Arrival) (now : Tick), g.state = .forming →
      let fits := a.member = g.member ∧ inMask g.member l = true ∧ a.timed = g.timed
        ∧ (a.timed = true → a.startTime = g.startTime)
      let joined : Group := { g with ready := g.ready ||| BitVec.twoPow 4 l.val }
      (¬ fits → g.arrive l a now = none)
      ∧ (fits → g.arrive l a now = some (if joined.ready = joined.member then joined.commit now else joined)))
  ∧ (∀ (g : Group) (l : LaneId) (a : Arrival) (now : Tick), g.state = .committed → g.arrive l a now = none)
  ∧ (∀ (g : Group) (now : Tick), g.state = .forming → g.ready = g.member →
      g.commit now = { g with
        state := .committed
        startTick := if g.timed = true ∧ ¬((now - g.startTime).toNat < 2 ^ 47) then g.startTime else now + 1
        late := g.timed && decide ((now - g.startTime).toNat < 2 ^ 47) })
  ∧ (∀ r : Bytes 64,
      let a := arrivalOf (burstOf r)
      (∀ l : LaneId, inMask a.member l = (field 8 23 r).getLsbD l.val)
      ∧ a.timed = (field 8 1 r).getLsbD 4 ∧ a.waitLimit = field 32 24 r
      ∧ a.startTime = if a.timed = true then field 48 16 r else 0)
  ∧ ∀ (g : GroupId) (s : State), PortQuiet s → (s.group g).state = .committed →
      exec (.groupDeadline g) s = .next s

/-- GROUP_DEADLINE at the deadline of a FORMING group completes. The group is IDLE; the entry of each ready
lane that waits in a group retires with GROUP_TIMEOUT at this tick, its blocks at the back of the free list,
its pins held or released as retirement lays down; every other lane, group and pin is as it was. The work that
follows is a request of each of their context ports, in an order that is free, one examination of the claim
wait list if pins were released, and one look of the allocator; what is done first: WaitsEndAtTheirTick. A
released pin notes its earlier output (notes/assumptions/9.md, DESIGN CHOICE). That every release comes before
any member's next claim is a choice of the model (notes/assumptions/4.md, DESIGN CHOICE). Rests on: 4.4 The
deadline; 1.5 Retirement; 3.5 Release and held pins. -/
def Obligations.GroupDeadlineFailsReadyMembers : Prop :=
  ∀ (g : GroupId) (s : State), (s.group g).state = .forming → (s.group g).deadline = s.timebase →
    let ls := allLanes.filter fun l => (s.group g).ready.getLsbD l.val
      && match (s.lane l).active with | none => false | some a => a.context == .groupWait
    let keeps (l : LaneId) : Bool := match (s.lane l).active with
      | none => false
      | some a => (burstOf a.record).holdPins
    let burst (l : LaneId) : Bool := match (s.lane l).active with | none => false | some a => a.kind == 1
    let blocks (l : LaneId) : List Nat := match (s.lane l).active with | none => [] | some a => a.blocks
    ∃ u work, exec (.groupDeadline g) s = .next (hostPort (settle (u, work)))
      ∧ u = { s with lanes := u.lanes, alloc := u.alloc, pins := u.pins, groups := u.groups, choices := u.choices }
      ∧ (∀ k, u.group k = if k = g then Group.idle else s.group k)
      ∧ (∀ l, u.lane l = if l ∈ ls then { s.lane l with active := (s.lane l).active.map fun a =>
            { a with context := .retiring .groupTimeout s.timebase, blocks := [] } }
          else s.lane l)
      ∧ (∀ (n : PinId) (l : LaneId), (s.pin n).owner = some l → u.pin n =
          if l ∉ ls ∨ burst l = false then s.pin n
          else if keeps l then { s.pin n with held := true } else (s.pin n).released)
      ∧ (∀ n : PinId, (s.pin n).owner = none → u.pin n = s.pin n)
      ∧ (∃ order : List LaneId, order.Perm ls ∧ u.alloc = { s.alloc with free := s.alloc.free ++ order.flatMap blocks })
      ∧ ∃ asks : List Task, asks.Perm (ls.map fun l => .ask (.context l))
          ∧ work = (if ∃ l ∈ ls, blocks l ≠ [] then [.look] else [])
              ++ (if ∃ l ∈ ls, OwnsPin l s ∧ burst l = true ∧ keeps l = false then [.examine] else []) ++ asks

/-- GROUP_START_TICK at the start tick of a COMMITTED group, whose ready lanes' entries wait in a group and
hold their first vector, completes. The group is IDLE. Every ready lane's entry is PLAYING from its first
vector boundary at this tick, GROUPED, with the group's late mark, its statistics and accumulator as R74 gives
and a pending shadow pace SUPERSEDED; the pins of each starting lane take its drive value on this one tick.
Every other lane, group and pin is as it was. The mark that a period's strobe has been taken, cleared here, is
the model's own (notes/assumptions/8.md, DESIGN CHOICE). Rests on: 4.3 Commit and start; 5.1 The play engine;
5.3 Periods and vector boundaries. -/
def Obligations.GroupStartTickStartsReadyMembers : Prop :=
  ∀ (g : GroupId) (s : State) (entry : LaneId → Active) (vector : LaneId → Vec),
    (s.group g).state = .committed → (s.group g).startTick = s.timebase →
    (∀ l, (s.group g).ready.getLsbD l.val = true → (s.lane l).active = some (entry l)
      ∧ (entry l).context = .groupWait
      ∧ vectorOf s.store (entry l).blocks ((burstOf (entry l).record).playIndex 1) = some (vector l)) →
    ∃ u work, exec (.groupStartTick g) s = .next (hostPort (settle (u, work)))
      ∧ u = { s with lanes := u.lanes, pins := u.pins, groups := u.groups, choices := u.choices }
      ∧ (∀ k, u.group k = if k = g then Group.idle else s.group k)
      ∧ (∀ l, u.lane l = if (s.group g).ready.getLsbD l.val = true then
            (s.lane l).started l (entry l) (s.group g).late true (vector l) s.timebase
          else s.lane l)
      ∧ (∀ (n : PinId) (l : LaneId), (s.pin n).owner = some l → u.pin n =
          if (s.group g).ready.getLsbD l.val = true then (s.pin n).driven l (vector l).drive n else s.pin n)
      ∧ (∀ n : PinId, (s.pin n).owner = none → u.pin n = s.pin n)
      ∧ work.Perm ((allLanes.filter fun l => (s.group g).ready.getLsbD l.val
            && (s.lane l).shadow.isSome && (s.lane l).outbox.isEmpty).map fun l => .ask (.retune l))

/-- A lane takes its front item when its context is empty, it is not OFF and the item is ready: the skip note
at place 0, else a head that is READY or FAILED. A skip note goes to RETIRING with SKIPPED and stays until its
record is placed. A head leaves staging and a note behind it moves up. A FAILED entry retires with its status;
a RELEASE releases every pin of the lane and retires OK; a RESUME takes a TRIPPED lane with no covering set to
RUN and retires OK, with one retires STILL_TRIPPED, and in another run state retires OK; a MARK retires at
once, LATE when AT_TIME and due, or waits for its time; a BURST goes to CLAIMING and presents its claim. Start
and end time of what retires at once are the tick of taking. Otherwise nothing happens. The order of the work
that follows is the model's (notes/assumptions/4.md, DESIGN CHOICE). A released pin notes its earlier output
(notes/assumptions/9.md, DESIGN CHOICE). Rests on: 1.3 The staging queue; 1.4 The active context; 1.7 The skip
note; 8.5 A TRIPPED lane and RESUME; 6.2 Due times. -/
def Obligations.LanesTakeTheirFrontItem : Prop :=
  ∀ (l : LaneId) (s : State),
    let x := s.lane l
    let now := s.timebase
    let active (kind : Byte) (record : Bytes 64) (context : Context) (late : Bool) (blocks : List Nat) : Active :=
      { kind := kind, record := record, context := context, taken := now, startTime := now, late := late
        grouped := false, blocks := blocks, stats := ⟨0, 0, 0, 0, 0⟩ }
    (x.active ≠ none ∨ x.run = .off → takeFront l s = (s, []))
    ∧ (∀ n, x.active = none → x.run ≠ .off → x.skip = some n → n.place = 0 →
        takeFront l s = (s.setLane l { x with
          active := some (active 9 (Vector.replicate 64 0) (.retiring .skipped now) false []) }, [.ask (.context l)]))
    ∧ (x.active = none → x.run ≠ .off → (∀ n, x.skip = some n → n.place ≠ 0) →
        (x.staging = [] → takeFront l s = (s, []))
        ∧ ∀ e q, x.staging = e :: q →
            let y := { x with staging := q, skip := x.skip.map fun n => { n with place := n.place - 1 } }
            let retires (context : Status) (late : Bool) (z : LaneState) (v : State) : State :=
              v.setLane l { z with active := some (active e.kind e.record (.retiring context now) late []) }
            (e.state ≠ .ready → e.state ≠ .failed → takeFront l s = (s, []))
            ∧ (∀ status, e.state = .failed → e.status = some status →
                takeFront l s = (retires status false y s, [.ask (.context l)]))
            ∧ (e.state = .ready → e.kind = 1 → takeFront l s =
                presentClaim l (active 1 e.record .claiming false e.blocks)
                  (s.setLane l { y with active := some (active 1 e.record .claiming false e.blocks) }))
            ∧ (e.state = .ready → e.kind = 3 →
                let t := field 48 16 e.record
                takeFront l s =
                  if field 8 2 e.record = 0 then (retires .ok false y s, [.ask (.context l)])
                  else if (now - t).toNat < 2 ^ 47 then (retires .ok true y s, [.ask (.context l)])
                  else (s.setLane l { y with active := some (active 3 e.record (.timeWait t false) false []) }, []))
            ∧ (e.state = .ready → e.kind = 4 → ∃ v : State, v = { s with pins := v.pins }
                ∧ (∀ n : PinId, v.pin n = if (s.pin n).owner = some l then (s.pin n).released else s.pin n)
                ∧ takeFront l s = (retires .ok false y v,
                    (if OwnsPin l s then [.examine] else []) ++ [.ask (.context l)]))
            ∧ (e.state = .ready → e.kind = 5 →
                let covers (i : SetId) : Prop := (s.trip i).enabled = true ∧ (s.trip i).laneMask.getLsbD l.val = true
                  ∧ ∀ n : PinId, (s.trip i).pinMask.getLsbD n = true →
                      (s.qualifier.pin n).level = (s.trip i).pattern.getLsbD n
                (x.run ≠ .tripped → takeFront l s = (retires .ok false y s, [.ask (.context l)]))
                ∧ (x.run = .tripped → (covers 0 ∨ covers 1) →
                    takeFront l s = (retires .stillTripped false y s, [.ask (.context l)]))
                ∧ (x.run = .tripped → ¬(covers 0 ∨ covers 1) →
                    takeFront l s = (retires .ok false { y with run := .run } s, [.ask (.context l)]))))

/-- A request of a port is granted in its own event exactly when fewer than 14 general entries are in use and
no port waits; otherwise it joins the back of the waiting list. A grant to a context port in RETIRING places
the record of R17 at the back of the Post Queue, with PINS_HELD 1 exactly when the lane then owns a held pin,
empties the context, drops the skip note of a SKIP, whose count is read here (notes/assumptions/17.md,
DEDUCED), and lets the lane take its next front item. A grant to a retune port places the oldest outbox
record, and the port asks again while the outbox is not empty. Rests on: 10.1 The Post Queue; 1.5 Retirement;
1.8 The shadow pace and RETUNE completions. -/
def Obligations.PostQueueGrantsGeneralEntries : Prop :=
  (∀ (p : Port) (s : State),
    ((s.post.items.filter fun i => i.source == .general).length < 14 ∧ s.post.waiting = [] →
      askPort p s = grantPort p s)
    ∧ (¬((s.post.items.filter fun i => i.source == .general).length < 14 ∧ s.post.waiting = []) →
        askPort p s = ({ s with post := { s.post with waiting := s.post.waiting ++ [p] } }, [])))
  ∧ (∀ (l : LaneId) (a : Active) (status : Status) (endTime : Tick) (s : State),
      (s.lane l).active = some a → a.context = .retiring status endTime →
      let held : Bool := decide (∃ n : PinId, (s.pin n).owner = some l ∧ (s.pin n).held = true)
      let record : Completion :=
        { tag := field 32 4 a.record, lane := BitVec.ofNat 8 l.val, kind := a.kind, status := status
          late := a.late, pinsHeld := held, grouped := a.grouped, stats := a.stats, startTime := a.startTime
          endTime := endTime
          detail := if status = .skipped then
              (match (s.lane l).skip with | some n => .skip n.count | none => .none) else .none }
      ∃ u, grantPort (.context l) s = (u, [.take l])
        ∧ u = { s with lanes := u.lanes
                       post := { s.post with items := s.post.items ++ [⟨.general, record⟩] } }
        ∧ ∀ k, u.lane k = if k = l then { s.lane l with
              active := none, skip := if status = .skipped then none else (s.lane l).skip }
            else s.lane k)
  ∧ ∀ (l : LaneId) (c : Completion) (rest : List Completion) (s : State), (s.lane l).outbox = c :: rest →
      let held : Bool := decide (∃ n : PinId, (s.pin n).owner = some l ∧ (s.pin n).held = true)
      ∃ u, grantPort (.retune l) s = (u, if rest = [] then [] else [.ask (.retune l)])
        ∧ u = { s with lanes := u.lanes
                       post := { s.post with items :=
                        s.post.items ++ [⟨.general, { c with pinsHeld := held }⟩] } }
        ∧ ∀ k, u.lane k = if k = l then { s.lane l with outbox := rest } else s.lane k

/-- At the tick at which a BURST's TIME_WAIT ends, with its first vector in the store, BURST_START completes:
the entry is PLAYING with its start time this tick, its late mark, one vector applied and no failures; the
engine stands at play 1, period 1, with the record's pace, an accumulator that began at 0, and the period's
length fixed; a pending shadow pace is SUPERSEDED; the lane's DRIVE and BOTH pins take the drive value.
Nothing else changes but the retune port's request. The mark that a period's strobe has been taken, cleared
here, is the model's own (notes/assumptions/8.md, DESIGN CHOICE). Rests on: 1.4 The active context; 5.1 The
play engine; 5.3 Periods and vector boundaries; 6.3 Pace; 6.5 The shadow pace and RETUNE. -/
def Obligations.BurstStartEntersPlaying : Prop :=
  ∀ (l : LaneId) (late : Bool) (a : Active) (v : Vec) (s : State),
    (s.lane l).active = some a → a.kind = 1 → a.context = .timeWait s.timebase late →
    vectorOf s.store a.blocks ((burstOf a.record).playIndex 1) = some v →
    ∃ u work, exec (.burstStart l) s = .next (hostPort (settle (u, work)))
      ∧ u = { s with lanes := u.lanes, pins := u.pins }
      ∧ (∀ k, u.lane k = if k = l then (s.lane l).started l a late false v s.timebase else s.lane k)
      ∧ (∀ n : PinId, u.pin n = (s.pin n).driven l v.drive n)
      ∧ work = if (s.lane l).shadow.isSome = true ∧ (s.lane l).outbox = [] then [.ask (.retune l)] else []

/-- At its tick STROBE completes and changes the lane's active entry alone. The observed value holds the raw
levels of the sense pins and 0 elsewhere; the mismatch bits are observed XOR expect, AND care. For a STROBE
vector the strobe fails when they are non-zero, or zero with COMPARE_INVERT; a failed strobe adds 1 to the
count, saturating, records index, pass number and observed value if it is the first, and with STOP_ON_FAIL
sets MISMATCH_STOP pending. For a GATE vector the gate resolves when the mismatch bits are zero, or non-zero
with GATE_ON_DIFF; a gate not holding in period G sets GATE_TIMEOUT pending and counts nothing. A vector with
neither changes no count and no stop. The mark that the period's strobe has been taken is the model's own
(notes/assumptions/8.md, DESIGN CHOICE). Rests on: 5.4 Strobes and the comparison; 5.5 Gates. -/
def Obligations.StrobeComparesAndTestsGates : Prop :=
  ∀ (l : LaneId) (a : Active) (e : Engine) (observed : Pins) (s : State), PortQuiet s →
    (s.lane l).active = some a → a.context = .playing e → e.strobed = false →
    let b := burstOf a.record
    e.periodStart + b.strobeOffset.setWidth 48 = s.timebase →
    (∀ n : PinId, observed.getLsbD n = (b.sense.getLsbD n && rawLevel s n)) →
    let differs : Bool := decide (∃ n : PinId, b.care.getLsbD n = true
      ∧ observed.getLsbD n ≠ e.vector.expect.getLsbD n)
    let fails := e.vector.strobe = true ∧ differs ≠ b.compareInvert
    let gate := e.vector.gate = true ∧ e.vector.strobe = false
    let holds := differs = e.vector.gateOnDiff
    let first : Bool := a.stats.mismatches == 0
    exec (.strobe l) s = .next (s.setActive l (some { a with
      context := .playing { e with
        strobed := true
        gateResolved := e.gateResolved || decide (gate ∧ holds)
        stop := if fails ∧ b.stopOnFail = true then some .mismatchStop
                else if gate ∧ ¬ holds ∧ e.period = b.gateLimit.toNat then some .gateTimeout else e.stop }
      stats := if fails then
          { a.stats with
            mismatches := BitVec.ofNat 32 (min (a.stats.mismatches.toNat + 1) (2 ^ 32 - 1))
            firstIndex := if first then BitVec.ofNat 16 (b.playIndex e.play) else a.stats.firstIndex
            firstPass := if first then BitVec.ofNat 16 (b.passNumber e.play) else a.stats.firstPass
            firstObserved := if first then observed else a.stats.firstObserved }
        else a.stats }))

/-- At the tick at which the period ends, PERIOD_END completes. With a stop pending the burst retires with
that status. Else, with an unresolved gate, or a non-GATE vector short of its hold count, period p+1 of the
play begins, its length from the pace and the accumulator. Else, while plays are left, play j+1's boundary
falls here: one more vector applied, the drive value on the lane's pins, period 1 with its length fixed, the
gate unresolved. Else the burst retires, OK with no mismatch and MISMATCH otherwise. What a pass boundary does
besides is stated in RetuneAtPassBoundary. The mark that the period's strobe has been taken is the model's own
(notes/assumptions/8.md, DESIGN CHOICE). A released pin notes its earlier output (notes/assumptions/9.md,
DESIGN CHOICE). Rests on: 5.6 End of play; 5.3 Periods and vector boundaries; 6.3 Pace. -/
def Obligations.PeriodEndDecidesWhatFollows : Prop :=
  ∀ (l : LaneId) (a : Active) (e : Engine) (s : State),
    (s.lane l).active = some a → a.context = .playing e → e.periodStart + e.periodLength = s.timebase →
    let b := burstOf a.record
    let pace (accumulator : Nat) (fraction : Byte) : Nat × Tick :=
      if 32 ≤ accumulator + fraction.toNat then (accumulator + fraction.toNat - 32, 1)
      else (accumulator + fraction.toNat, 0)
    let more := (e.vector.gate = true ∧ e.gateResolved = false)
      ∨ (e.vector.gate = false ∧ e.period < e.vector.hold + 1)
    (∀ status, e.stop = some status →
      ∃ u work, exec (.periodEnd l) s = .next (hostPort (settle (u, work))) ∧ Retires l a status s u work)
    ∧ (e.stop = none → more → PortQuiet s →
        exec (.periodEnd l) s = .next (s.setActive l (some { a with
          context := .playing
            { e with
              period := e.period + 1
              strobed := false, periodStart := s.timebase, accumulator := (pace e.accumulator e.paceFraction).1
              periodLength := e.paceInteger.setWidth 48 + (pace e.accumulator e.paceFraction).2 } })))
    ∧ (∀ v, e.stop = none → ¬ more → e.play < b.sequenceLength →
        vectorOf s.store a.blocks (b.playIndex (e.play + 1)) = some v →
        ∃ u work, exec (.periodEnd l) s = .next (hostPort (settle (u, work)))
          ∧ u = { s with lanes := u.lanes, pins := u.pins }
          ∧ (∀ n : PinId, u.pin n = (s.pin n).driven l v.drive n)
          ∧ (∀ k, k ≠ l → u.lane k = s.lane k)
          ∧ (b.passBoundary (e.play + 1) = false → work = [] ∧ u.lane l = { s.lane l with active := some { a with
              stats := { a.stats with vectors := a.stats.vectors + 1 }
              context := .playing
                { e with
              play := e.play + 1, period := 1, gateResolved := false, vector := v
              strobed := false, periodStart := s.timebase, accumulator := (pace e.accumulator e.paceFraction).1
              periodLength := e.paceInteger.setWidth 48 + (pace e.accumulator e.paceFraction).2 } } }))
    ∧ (e.stop = none → ¬ more → b.sequenceLength ≤ e.play →
        ∃ u work, exec (.periodEnd l) s = .next (hostPort (settle (u, work)))
          ∧ Retires l a (if a.stats.mismatches = 0 then .ok else .mismatch) s u work)

/-- At a pass boundary, with no shadow the pace in effect and the accumulator go on. With one whose I exceeds
the burst's strobe offset the pace in effect becomes its I and F, the accumulator restarts from 0 and the
period beginning there has its length from them; with any other the pace and the accumulator go on. In both
cases the shadow is absent and its completion, OK or BAD_PACE with end time this tick, joins the retune
outbox, whose port asks if it was empty. The boundary's drive value is on the lane's pins, and nothing else
changes. The mark that the period's strobe has been taken is the model's own (notes/assumptions/8.md, DESIGN
CHOICE). Rests on: 6.5 The shadow pace and RETUNE; 5.3 Periods and vector boundaries; 6.3 Pace. -/
def Obligations.RetuneAtPassBoundary : Prop :=
  ∀ (l : LaneId) (a : Active) (e : Engine) (v : Vec) (s : State),
    (s.lane l).active = some a → a.context = .playing e → e.periodStart + e.periodLength = s.timebase →
    let b := burstOf a.record
    let pace (accumulator : Nat) (fraction : Byte) : Nat × Tick :=
      if 32 ≤ accumulator + fraction.toNat then (accumulator + fraction.toNat - 32, 1)
      else (accumulator + fraction.toNat, 0)
    e.stop = none → (if e.vector.gate then e.gateResolved = true else e.vector.hold + 1 ≤ e.period) →
    e.play < b.sequenceLength → b.passBoundary (e.play + 1) = true →
    vectorOf s.store a.blocks (b.playIndex (e.play + 1)) = some v →
    ∃ u work, exec (.periodEnd l) s = .next (hostPort (settle (u, work)))
      ∧ u = { s with lanes := u.lanes, pins := u.pins }
      ∧ (∀ n : PinId, u.pin n = (s.pin n).driven l v.drive n)
      ∧ (∀ k, k ≠ l → u.lane k = s.lane k)
      ∧ ∃ (status : Status) (integer : Half) (fraction : Byte) (accumulator : Nat),
        (match (s.lane l).shadow with
          | none => integer = e.paceInteger ∧ fraction = e.paceFraction ∧ accumulator = e.accumulator ∧ work = []
          | some sh =>
            (if b.strobeOffset.toNat < sh.paceInteger.toNat then
              status = .ok ∧ integer = sh.paceInteger ∧ fraction = sh.paceFraction ∧ accumulator = 0
             else
              status = .badPace ∧ integer = e.paceInteger ∧ fraction = e.paceFraction
                ∧ accumulator = e.accumulator)
            ∧ work = if (s.lane l).outbox = [] then [.ask (.retune l)] else [])
        ∧ u.lane l = { s.lane l with
            shadow := none
            outbox := (s.lane l).outbox ++ (s.lane l).shadowCompletion l status s.timebase
            active := some { a with
              stats := { a.stats with vectors := a.stats.vectors + 1 }
              context := .playing { e with
                play := e.play + 1, period := 1, gateResolved := false, vector := v, strobed := false
                periodStart := s.timebase, paceInteger := integer, paceFraction := fraction
                accumulator := (pace accumulator fraction).1
                periodLength := integer.setWidth 48 + (pace accumulator fraction).2 } } }

/-- For a record that passes the checks of a BURST, the vector indexes of plays 1, 2, and so on up to the
sequence length are, in order: 0 to N-1 with loop mode NONE or P equal to 0; else 0 to Le, then P times Ls to
Le for WRAP, or Le-1 down to Ls and Ls+1 up to Le for BOUNCE, then Le+1 to N-1. The length is N, N + P(Le-
Ls+1) or N + 2P(Le-Ls), at least 1 and at most 134,085,634, and every index is below N. Formalises R75, R76,
R77. -/
def Obligations.PlaySequenceIsLeadInPassesTail : Prop :=
  ∀ r : Bytes 64, burstValid r = true →
    let b := burstOf r
    let p := (field 16 56 r).toNat
    let n := (field 16 50 r).toNat
    let first := (field 16 52 r).toNat
    let last := (field 16 54 r).toNat
    (List.range b.sequenceLength).map (fun j => b.playIndex (j + 1)) =
      (if field 8 3 r = 0 ∨ p = 0 then List.range n
       else
        List.range (last + 1)
        ++ (List.replicate p (if field 8 3 r = 1 then List.range' first (last - first + 1)
            else (List.range' first (last - first)).reverse ++ List.range' (first + 1) (last - first))).flatten
        ++ List.range' (last + 1) (n - (last + 1)))
    ∧ b.sequenceLength =
        (if field 8 3 r = 0 ∨ p = 0 then n
         else if field 8 3 r = 1 then n + p * (last - first + 1) else n + 2 * p * (last - first))
    ∧ 1 ≤ b.sequenceLength ∧ b.sequenceLength ≤ 134085634
    ∧ ∀ j, 1 ≤ j → j ≤ b.sequenceLength → b.playIndex j < n

/-- For a valid BURST, play j has a pass boundary exactly when it is the first play of pass k for some k from
1 to P: play Le+1 + (k-1) times the pass length + 1. A burst without passes has none, one with passes exactly
P. The pass number of a play of the sequence is the number of pass boundaries at or before it: 0 in the lead-
in and P in the tail. Rests on: 5.2 The play sequence. -/
def Obligations.PassNumbersCountPassBoundaries : Prop :=
  ∀ r : Bytes 64, burstValid r = true →
    let b := burstOf r
    let p := (field 16 56 r).toNat
    let first := (field 16 52 r).toNat
    let last := (field 16 54 r).toNat
    let length := if field 8 3 r = 1 then last - first + 1 else 2 * (last - first)
    (∀ j, b.passBoundary j = true ↔ field 8 3 r ≠ 0 ∧ ∃ k, 1 ≤ k ∧ k ≤ p ∧ j = last + 1 + (k - 1) * length + 1)
    ∧ ((List.range b.sequenceLength).filter fun j => b.passBoundary (j + 1)).length =
        (if field 8 3 r = 0 then 0 else p)
    ∧ ∀ j, 1 ≤ j → j ≤ b.sequenceLength →
        b.passNumber j = ((List.range j).filter fun i => b.passBoundary (i + 1)).length

/-- For a run of periods at one pace, begun at tick t0 with an accumulator of 0, each period starting where
the one before it ends: period k+1 starts at t0 + kI + floor(kF/32) modulo 2^48, its strobe falls S ticks
later, the accumulator after k periods is kF modulo 32, every period is I or I+1 ticks, exactly floor(kF/32)
of the first k are I+1, and every 32 periods add 32I + F ticks. Formalises R105. -/
def Obligations.PaceSpreadsLongPeriods : Prop :=
  ∀ (b : Burst) (e : Engine) (t0 : Tick), e.accumulator = 0 → e.paceFraction.toNat ≤ 31 →
    let next (x : Engine) : Engine :=
      Engine.startPeriod (x.periodStart + x.periodLength) { x with period := x.period + 1 }
    let period (k : Nat) : Engine := Nat.repeat next k (e.startPeriod t0)
    let i := e.paceInteger.toNat
    let f := e.paceFraction.toNat
    ∀ k : Nat,
      (period k).periodStart = t0 + BitVec.ofNat 48 (k * i + k * f / 32)
      ∧ strobeTick b (period k) = t0 + BitVec.ofNat 48 (k * i + k * f / 32 + b.strobeOffset.toNat)
      ∧ (period k).accumulator = (k + 1) * f % 32
      ∧ ((period k).periodLength = BitVec.ofNat 48 i ∨ (period k).periodLength = BitVec.ofNat 48 (i + 1))
      ∧ ((List.range k).filter fun j => (period j).periodLength == BitVec.ofNat 48 (i + 1)).length = k * f / 32
      ∧ (period (k + 32)).periodStart = (period k).periodStart + BitVec.ofNat 48 (32 * i + f)

/-- A time T is due exactly when (now - T) modulo 2^48 is less than 2^47: from the tick T and for the 2^47-1
ticks that follow, and not for the 2^47 ticks before T. When T is not due at some tick, the first tick from
then on at which it is due is T itself. Formalises R100. -/
def Obligations.DueTestCoversHalfTheTimebase : Prop :=
  (∀ time now : Tick, due time now = true ↔ (now.toNat + 2 ^ 48 - time.toNat) % 2 ^ 48 < 2 ^ 47)
  ∧ (∀ (time : Tick) (k : Nat), k < 2 ^ 47 → due time (time + BitVec.ofNat 48 k) = true)
  ∧ (∀ (time : Tick) (k : Nat), 1 ≤ k → k ≤ 2 ^ 47 → due time (time - BitVec.ofNat 48 k) = false)
  ∧ ∀ time now : Tick, due time now = false → ∃ k, now + BitVec.ofNat 48 k = time ∧ due time time = true
      ∧ ∀ j < k, due time (now + BitVec.ofNat 48 j) = false

/-- The receiver reads what the equipment outside puts on a floating or held pin, else the part's own level. A
pin's own level is the one without the releases and grants the look has yet to see. RAW_LEVEL_CHANGE
completes: the outside levels change, and in ON the qualifier looks, if it may look now. QUALIFIER_SAMPLE
completes at a grid tick in ON with a look, if it may look now. It may look once a tick, when no command waits
and either no timed event of the tick is left or those that would follow the look leave every pin it reads at
the level it read; a pin that changes at the look may yet be released or granted (how the changes of a tick
come to one event, and the note of a pin's earlier output: notes/assumptions/9.md, DESIGN CHOICE). What would
follow is what the steps after the look do. Once it has looked, no command in ON moves a qualified level until
the next tick. At a look each count-0 pin takes its raw level, stability 0. A pin with count C of 1 or more is
moved at a grid tick only, by the table of R115, and the grid goes on by Q. A change of the own level is kept
though a release or grant of the tick came first; the pin's move is a later change (R119); without one the
level as it stands is read. Registers, timebase, store, both rings, the interrupt logic and the claims are not
touched; only a claim of a lane that is TRIPPED leaves the list. Rests on: 7.1 The qualifier; 8.2 Arming and
firing; 5.7 Play against the rest of the part. -/
def Obligations.QualifierFollowsAndSamples : Prop :=
  (∀ (s : State) (n : PinId), rawLevel s n =
    if s.outside.hold.getLsbD n = true ∨ (s.pin n).output = .float then s.outside.level.getLsbD n
    else decide ((s.pin n).output = .high))
  ∧ (∀ (s : State) (n : PinId), ownLevel s n =
    match (s.pin n).earlier with
    | none => rawLevel s n
    | some out => if s.outside.hold.getLsbD n = true ∨ out = .float then s.outside.level.getLsbD n
        else decide (out = .high))
  ∧ (∀ (level hold : Pins) (s : State), s.window.device ≠ .on →
      exec (.rawLevelChange level hold) s = .next { s with outside := ⟨level, hold⟩ })
  ∧ (∀ (level hold : Pins) (s : State), s.window.device = .on →
      let v : State := { s with outside := ⟨level, hold⟩ }
      exec (.rawLevelChange level hold) s =
        .next (hostPort (if lookReady v = true then settle (qualifierLook v) else v)))
  ∧ (∀ s : State, s.window.device = .on → s.qualifier.nextSample = s.timebase →
      exec .qualifierSample s = .next (hostPort (if lookReady s = true then settle (qualifierLook s) else s)))
  ∧ (∀ s : State, lookReady s = true ↔
      (s.qualifier.looked = false ∨ s.qualifier.nextSample = s.timebase)
      ∧ s.pending = []
      ∧ ((∀ i ∈ tickEvents s, i = .qualifierSample ∨ i = .rawLevelChange s.outside.level s.outside.hold)
        ∨ let u := hostPort (settle (qualifierLook s))
          let v := restOfTick 64 u
          ∀ n : PinId, (s.pin n).qualifierCount = 0 ∨ s.qualifier.nextSample = s.timebase →
            rawLevel v n = rawLevel u n
            ∨ ((u.qualifier.pin n).level ≠ (s.qualifier.pin n).level
                ∧ ((v.pin n).owner ≠ (u.pin n).owner ∨ (v.pin n).role ≠ (u.pin n).role))))
  ∧ (∀ (n : Nat) (s : State), s.pending = [] →
      s.window.device ≠ .on ∨ (s.qualifier.looked = true ∧ s.qualifier.nextSample ≠ s.timebase) →
      restOfTick 0 s = s ∧ (tickEvents s = [] → restOfTick n s = s)
      ∧ (tickEvents s ≠ [] → ∀ t, step s = .next t → restOfTick (n + 1) s = restOfTick n t))
  ∧ (∀ (c : Instr) (s t : State), exec c s = .next t → s.window.device = .on → t.window.device = .on →
      s.qualifier.looked = true → s.qualifier.nextSample ≠ s.timebase → t.qualifier = s.qualifier)
  ∧ ∀ s : State,
      let u := (qualifierLook s).1
      u.qualifier.looked = true
      ∧ (∀ n : PinId, u.qualifier.pin n =
        let p := s.qualifier.pin n
        let c := (s.pin n).qualifierCount
        let look (raw : Bool) : QualifiedPin :=
          if c = 0 then ⟨raw, 0⟩
          else if s.qualifier.nextSample ≠ s.timebase then p
          else if raw = p.level then ⟨p.level, 0⟩
          else if p.stability < c then ⟨p.level, p.stability + 1⟩
          else ⟨raw, 0⟩
        if (look (ownLevel s n)).level ≠ p.level then look (ownLevel s n) else look (rawLevel s n))
      ∧ u.qualifier.interval = s.qualifier.interval
      ∧ u.qualifier.nextSample = (if s.qualifier.nextSample = s.timebase then
            s.qualifier.nextSample + s.qualifier.interval.setWidth 48 else s.qualifier.nextSample)
      ∧ u.window = s.window ∧ u.timebase = s.timebase ∧ u.store = s.store ∧ u.outside = s.outside
      ∧ u.completionRing = s.completionRing ∧ u.captureRing = s.captureRing ∧ u.interrupt = s.interrupt
      ∧ u.port = s.port ∧ u.post.waiting = s.post.waiting ∧ u.lastLane = s.lastLane ∧ u.pending = s.pending
      ∧ u.claims.Sublist s.claims ∧ ∀ c ∈ s.claims, c ∉ u.claims → (u.lane c.lane).run = .tripped

/-- At a look the changes reach the Capture Monitor in ascending pin number. A change to v on a pin watched
RISE with v 1, FALL with v 0, or BOTH forms a record with this tick, the pin, the level, the owner before or
after the releases of a firing of the same event, the pending drop count and the pin's previous-change time or
0; it joins a FIFO of fewer than 32 records and clears the count, or is dropped from a full one and the count
rises by 1, saturating at 65535. Every change, reported or not, sets the pin's previous-change time. That the
owner is never a lane to which the examination grants the pin in the same event is the model's choice
(notes/assumptions/18.md, DESIGN CHOICE). Rests on: 7.2 Watching and capture records; 7.3 The capture FIFO and
lost edges. -/
def Obligations.WatchedChangesMakeCaptureRecords : Prop :=
  ∀ s : State, ∃ owner : PinId → Option LaneId,
    let u := (qualifierLook s).1
    (∀ n, owner n = (s.pin n).owner ∨ owner n = (u.pin n).owner)
    ∧ u.capture = (List.finRange 48).foldl (fun (c : Capture) (n : PinId) =>
        let v := (u.qualifier.pin n).level
        let m := c.pins.get n
        let watched := m.watch = .both ∨ (m.watch = .rise ∧ v = true) ∨ (m.watch = .fall ∧ v = false)
        if v = (s.qualifier.pin n).level then c
        else
          { pins := c.pins.set n.val { m with previous := some s.timebase } n.isLt
            fifo :=
              if watched ∧ c.fifo.length < 32 then
                c.fifo ++ [{ time := s.timebase, pin := n, level := v, owner := owner n, dropped := c.dropped
                             previous := m.previous.getD 0 }]
              else c.fifo
            dropped :=
              if watched then (if c.fifo.length < 32 then 0 else BitVec.ofNat 16 (min (c.dropped.toNat + 1) 65535))
              else c.dropped }) s.capture

/-- At a look, each enabled set that looks at a changed pin is evaluated once on the levels the event leaves:
with its condition false it is armed afterwards; true and armed it fires and is unarmed; true and unarmed
nothing happens; a set not concerned keeps its mark. The lanes of the firing sets' masks in RUN, FAULTED or
TRIPPED are withdrawn with TRIPPED in the one event, their pins released, held ones included, and are TRIPPED;
every other lane is as it was. Each firing set's TRIP record counts those lanes of its mask. The records are
made in either order, before the withdrawn lanes ask for entries (notes/assumptions/5.md, DEDUCED). The look
clears the model's notes of moved pins before the releases make theirs (notes/assumptions/9.md, DESIGN
CHOICE). Rests on: 8.2 Arming and firing; 8.3 What a firing does to the lanes. -/
def Obligations.TripSetsFireOnTheirPattern : Prop :=
  ∀ s : State,
    let u := (qualifierLook s).1
    let level (n : PinId) : Bool := (u.qualifier.pin n).level
    let fires (i : SetId) : Bool := (s.trip i).enabled && (s.trip i).armed
      && decide (∃ n : PinId, (s.trip i).pinMask.getLsbD n = true ∧ level n ≠ (s.qualifier.pin n).level)
      && decide (∀ n : PinId, (s.trip i).pinMask.getLsbD n = true → level n = (s.trip i).pattern.getLsbD n)
    let acted (m : LaneMask) : List LaneId := allLanes.filter fun l => m.getLsbD l.val
      && decide ((s.lane l).run = .run ∨ (s.lane l).run = .tripped ∨ (s.lane l).run = .faulted)
    let ls := allLanes.filter fun l => decide (∃ i, fires i = true ∧ l ∈ acted (s.trip i).laneMask)
    (∀ i, (u.trip i).armed =
        if (s.trip i).enabled = true
            ∧ ∃ n : PinId, (s.trip i).pinMask.getLsbD n = true ∧ level n ≠ (s.qualifier.pin n).level then
          decide (∃ n : PinId, (s.trip i).pinMask.getLsbD n = true ∧ level n ≠ (s.trip i).pattern.getLsbD n)
        else (s.trip i).armed)
    ∧ (∀ i, { u.trip i with armed := (s.trip i).armed, carry := (s.trip i).carry } = s.trip i)
    ∧ Withdrawal .tripped ls (fun x => { x with run := .tripped })
        { s with pins := s.pins.map fun p => { p with earlier := none } } u (qualifierLook s).2
    ∧ ∃ order : List SetId, order.Perm (([0, 1] : List SetId).filter fires)
        ∧ (let v := order.foldl (fun v i => recordFiring i (maskOf (acted (s.trip i).laneMask)) v) s
           u.post = v.post ∧ ∀ i, (u.trip i).carry = (v.trip i).carry)

/-- A firing of a set with an empty slot puts the TRIP record at the back of the Post Queue with the fields of
the table: tag 0, lane 15, kind 8, TRIPPED, start and end this tick, the lanes counted, the set and count 1.
With its record queued, the record's count rises by 1, saturating, its end time is this tick, the lanes are
ORed in, and its place and start time stay. With its record in writing, the queue does not change and the
firing enters the set's carry, which is made or merged the same way. When the write completes, a present carry
becomes a new record at the back with the carry's fields and is gone; on a bus error the queue and the carry
are dropped. A firing and the completion of the write on one tick give one new record with the same fields in
both orders. Formalises R133, R134. -/
def Obligations.TripRecordsArePlacedMergedOrCarried : Prop :=
  ∀ (i : SetId) (lanes : LaneMask) (s : State),
    let u := recordFiring i lanes s
    let up (n : Half) : Half := BitVec.ofNat 16 (min (n.toNat + 1) 65535)
    let placed := ∃ x ∈ s.post.items, x.source = .trip i
    let inWriting := s.completionRing.writing ≠ none ∧ ∃ x rest, s.post.items = x :: rest ∧ x.source = .trip i
    (¬ placed → u = { s with post := { s.post with items := s.post.items ++ [⟨.trip i,
        { tag := 0, lane := 15, kind := 8, status := .tripped, late := false, pinsHeld := false
          grouped := false, stats := ⟨0, 0, 0, 0, 0⟩, startTime := s.timebase, endTime := s.timebase
          detail := .trip lanes i 1 }⟩] } })
    ∧ (∀ before after c old count, s.post.items = before ++ ⟨.trip i, c⟩ :: after → c.detail = .trip old i count →
        (∀ x ∈ before ++ after, x.source ≠ .trip i) → ¬ inWriting →
        u = { s with post := { s.post with items := before ++ ⟨.trip i,
          { c with endTime := s.timebase, detail := .trip (old ||| lanes) i (up count) }⟩ :: after } })
    ∧ (placed → inWriting → u = { s with trips := u.trips }
        ∧ (∀ j, j ≠ i → u.trip j = s.trip j)
        ∧ u.trip i = { s.trip i with carry := some (match (s.trip i).carry with
            | none => ⟨1, lanes, s.timebase, s.timebase⟩
            | some k => ⟨up k.count, k.lanes ||| lanes, k.first, s.timebase⟩) })
    ∧ ∀ (op : OpId) (c : Completion) (rest : List PostItem), s.completionRing.writing = some op →
        s.post.items = ⟨.trip i, c⟩ :: rest →
        let made (k : Carry) : PostItem := ⟨.trip i,
          { tag := 0, lane := 15, kind := 8, status := .tripped, late := false, pinsHeld := false
            grouped := false, stats := ⟨0, 0, 0, 0, 0⟩, startTime := k.first, endTime := k.last
            detail := .trip k.lanes i k.count }⟩
        (∀ k, (s.trip i).carry = some k → ∃ v, exec .completionWriteDone s = .next v
          ∧ v.post.items = rest ++ [made k] ∧ (v.trip i).carry = none)
        ∧ (s.window.device = .on → ∃ v, exec .completionWriteError s = .next v
          ∧ v.post.items = [] ∧ ∀ j, (v.trip j).carry = none)
        ∧ ((s.trip i).carry = none → (∀ x ∈ rest, x.source ≠ .trip i) →
          let one := made ⟨1, lanes, s.timebase, s.timebase⟩
          (∃ v, exec .completionWriteDone u = .next v ∧ v.post.items = rest ++ [one] ∧ (v.trip i).carry = none)
          ∧ ∃ v, exec .completionWriteDone s = .next v ∧ (recordFiring i lanes v).post.items = rest ++ [one]
              ∧ ((recordFiring i lanes v).trip i).carry = none)

/-- A completion record is 48 bytes and a capture record 16, each field little-endian at its offset: tag,
lane, kind, status code, phase, LATE, PINS_HELD and GROUPED, the counts, first-failure fields, times and
detail of a completion; time, pin, level, owner, phase, dropped and previous-change time of a capture record.
The detail is the skip count of a SKIP, and of a TRIP its lanes in bits 0 to 3, its set in bit 8 and its count
in bits 16 to 31; else 0. Every byte and bit the layouts name zero is 0. The status codes are 0 for OK to 18
for SKIPPED, in the order of the table of R185. Formalises R180. -/
def Obligations.RecordBytesFollowTheLayouts : Prop :=
  ([.ok, .mismatch, .mismatchStop, .gateTimeout, .badRecord, .badVector, .loadFault, .pinConflict, .claimTimeout
    , .groupTimeout, .groupMismatch, .aborted, .tripped, .tripDiscard, .superseded, .badPace, .stillTripped
    , .fetchFault, .skipped] : List Status).map (fun x => x.code.toNat) = List.range 19
  ∧ (∀ (phase : Bool) (c : Completion),
    let d := c.bytes phase
    let at_ (off size : Nat) : Nat := leValue ((d.drop off).take size)
    let flag (b : Bool) (k : Nat) : Nat := if b then 2 ^ k else 0
    d.length = 48 ∧ at_ 0 4 = c.tag.toNat ∧ at_ 4 1 = c.lane.toNat ∧ at_ 5 1 = c.kind.toNat
    ∧ at_ 6 1 = c.status.code.toNat
    ∧ at_ 7 1 = flag phase 0 + flag c.late 1 + flag c.pinsHeld 2 + flag c.grouped 3
    ∧ at_ 8 4 = c.stats.vectors.toNat ∧ at_ 12 4 = c.stats.mismatches.toNat
    ∧ at_ 16 2 = c.stats.firstIndex.toNat ∧ at_ 18 2 = c.stats.firstPass.toNat
    ∧ at_ 20 6 = c.stats.firstObserved.toNat ∧ at_ 26 2 = 0 ∧ at_ 28 6 = c.startTime.toNat ∧ at_ 34 2 = 0
    ∧ at_ 36 6 = c.endTime.toNat ∧ at_ 42 2 = 0
    ∧ at_ 44 4 = (match c.detail with
        | .none => 0
        | .skip count => count.toNat
        | .trip lanes i count => lanes.toNat + 2 ^ 8 * i.val + 2 ^ 16 * count.toNat))
  ∧ ∀ (phase : Bool) (c : CaptureRecord),
      let d := c.bytes phase
      let at_ (off size : Nat) : Nat := leValue ((d.drop off).take size)
      d.length = 16 ∧ at_ 0 6 = c.time.toNat ∧ at_ 6 1 = c.pin.val
      ∧ at_ 7 1 = (if c.level then 1 else 0)
          + (match c.owner with | none => 0 | some l => 2 + 4 * l.val) + (if phase then 128 else 0)
      ∧ at_ 8 2 = c.dropped.toNat ∧ at_ 10 6 = c.previous.toNat

/-- At the expiry tick HOLDOFF_EXPIRY completes: the ring's timer stops and its expired flag is set, and
nothing else changes. In ON and FAULT a ring's cause is true exactly when U is at least its threshold, or its
flag is set and U is at least 1; in OFF and CONFIGURING it reads false. The FAULT cause is true exactly in
FAULT. The line is high exactly when a cause is true whose enable bit is set. Rests on: 10.5 Interrupt
moderation. -/
def Obligations.HoldoffExpiryRaisesCauses : Prop :=
  (∀ s : State, PortQuiet s →
    (s.interrupt.completion.timer = some s.timebase → exec (.holdoffExpiry .completion) s = .next { s with
      interrupt := { s.interrupt with
        completion := { s.interrupt.completion with timer := none, expired := true } } })
    ∧ (s.interrupt.capture.timer = some s.timebase → exec (.holdoffExpiry .capture) s = .next { s with
      interrupt := { s.interrupt with
        capture := { s.interrupt.capture with timer := none, expired := true } } }))
  ∧ ∀ s : State,
    let live := s.window.device = .on ∨ s.window.device = .fault
    let cause (i : RingInterrupt) (r : RingWriter) : Prop :=
      let u := (r.producer + r.entries - r.head) % r.entries
      live ∧ (i.threshold.toNat ≤ u ∨ (i.expired = true ∧ 1 ≤ u))
    (causeCQ s = true ↔ cause s.interrupt.completion s.completionRing)
    ∧ (causeKQ s = true ↔ cause s.interrupt.capture s.captureRing)
    ∧ (causeFault s = true ↔ s.window.device = .fault)
    ∧ (irqLine s = true ↔
        (s.interrupt.mask.getLsbD 0 = true ∧ causeCQ s = true)
        ∨ (s.interrupt.mask.getLsbD 1 = true ∧ causeKQ s = true)
        ∨ (s.interrupt.mask.getLsbD 2 = true ∧ causeFault s = true))

/-- Where nothing presents, a command that stands for an event of the part or a return of the link which the
state does not have at this tick answers the state as it was: a sample off the grid or outside ON, an expiry,
deadline, start tick, due time, strobe, period end or holdoff not of this tick, a write result with no write
in flight, a fetch or load return with no such read, a setup return outside CONFIGURING. That such a command
has no effect is the model's choice (notes/assumptions/1.md, DESIGN CHOICE). Rests on: 00_scope.md section 4,
Time; 10.4 The Host Port. -/
def Obligations.EventsOutOfPlaceChangeNothing : Prop :=
  ∀ s : State, PortQuiet s →
    (s.window.device ≠ .on ∨ s.qualifier.nextSample ≠ s.timebase → exec .qualifierSample s = .next s)
    ∧ (∀ l, (∀ c ∈ s.claims, c.lane = l → c.expiry ≠ s.timebase) → exec (.claimTimeout l) s = .next s)
    ∧ (∀ g, (s.group g).state ≠ .forming ∨ (s.group g).deadline ≠ s.timebase →
        exec (.groupDeadline g) s = .next s)
    ∧ (∀ g, (s.group g).state ≠ .committed ∨ (s.group g).startTick ≠ s.timebase →
        exec (.groupStartTick g) s = .next s)
    ∧ (∀ l, (∀ a late, (s.lane l).active = some a → a.kind = 3 → a.context ≠ .timeWait s.timebase late) →
        exec (.markDue l) s = .next s)
    ∧ (∀ l, (∀ a late, (s.lane l).active = some a → a.kind = 1 → a.context ≠ .timeWait s.timebase late) →
        exec (.burstStart l) s = .next s)
    ∧ (∀ l, (∀ a e, (s.lane l).active = some a → a.context = .playing e → e.strobed = true
          ∨ e.periodStart + (burstOf a.record).strobeOffset.setWidth 48 ≠ s.timebase) →
        exec (.strobe l) s = .next s)
    ∧ (∀ l, (∀ a e, (s.lane l).active = some a → a.context = .playing e →
          e.periodStart + e.periodLength ≠ s.timebase) →
        exec (.periodEnd l) s = .next s)
    ∧ (s.interrupt.completion.timer ≠ some s.timebase → exec (.holdoffExpiry .completion) s = .next s)
    ∧ (s.interrupt.capture.timer ≠ some s.timebase → exec (.holdoffExpiry .capture) s = .next s)
    ∧ (s.completionRing.writing = none →
        exec .completionWriteDone s = .next s ∧ exec .completionWriteError s = .next s)
    ∧ (s.captureRing.writing = none →
        exec .captureWriteDone s = .next s ∧ exec .captureWriteError s = .next s)
    ∧ (∀ l, (s.lane l).fetch = .none →
        (∀ r, exec (.recordArrival l r) s = .next s) ∧ exec (.fetchBusError l) s = .next s)
    ∧ (∀ l, (∀ op, (s.lane l).fetch ≠ .discarded op) → exec (.discardedFetchReturn l) s = .next s)
    ∧ (∀ (l : LaneId) (k : Fin 4),
        (∀ e, (s.lane l).staging[k.val]? = some e → e.state ≠ .loading ∨ e.reading = none) →
        (∀ d, exec (.loadReadReturn l k d) s = .next s) ∧ exec (.loadFault l k) s = .next s
        ∧ exec (.withdrawnLoadReturn l k) s = .next s)
    ∧ (∀ (l : LaneId) (k : Fin 4), (∀ e, (s.lane l).staging[k.val]? = some e → e.status = none) →
        exec (.withdrawnLoadReturn l k) s = .next s)
    ∧ (s.window.device ≠ .configuring ∨ s.window.setupRead = none →
        ∀ reply, exec (.setupReadReturn reply) s = .next s)

/-- From every state in which the free list and the block lists of staging entries and active bursts together
hold each of the 256 blocks exactly once, and in which entries that may hold no blocks hold none, every step
that answers a next state leads to such a state, whatever commands, returns, withdrawals, grants and frees it
carries out. Rests on: 2.1 Blocks and block lists; 2.2 The free list. -/
def Obligations.StepKeepsBlocksPartitioned : Prop :=
  ∀ s t : State, BlocksPartitioned s → step s = .next t → BlocksPartitioned t

/-- From every state in which a pin is held only if it is owned, has a role exactly while it is owned, outputs
its safe level while it is unowned and floats while it is an owned SENSE pin, every step that answers a next
state leads to such a state. Rests on: 3.1 The pin entry; 3.2 Output levels; 3.5 Release and held pins. -/
def Obligations.StepKeepsPinsSound : Prop :=
  ∀ s t : State, PinsSound s → step s = .next t → PinsSound t

/-- From every state in which each group's ready mask is contained in its member mask each ready lane's active
entry waits in GROUP_WAIT on that group, and an IDLE group holds the values of R58, every step that answers a
next state leads to such a state; so a lane is ready in at most one group. Rests on: 4.1 The group entry; 4.2
Arrival; 4.5 Members leaving. -/
def Obligations.StepKeepsGroupsSound : Prop :=
  ∀ s t : State, GroupsSound s → step s = .next t → GroupsSound t

/-- From every state in which the Post Queue holds at most 14 general records and at most one of each trip
set, both rings have their indexes below entries, and a write in flight stands at a free slot and carries a
record still held, every step that answers a next state leads to such a state. Rests on: 10.1 The Post Queue;
10.2 The completion ring writer; 7.4 The capture ring. -/
def Obligations.StepKeepsQueuesAndRingsBounded : Prop :=
  ∀ s t : State, PostBounded s ∧ RingsSound s → step s = .next t → PostBounded t ∧ RingsSound t

/-- From every state in which each reserved place stands for a live read of a lane in RUN or TRIPPED, staging
entries and reserved place are at most 4, and retune outbox and shadow are at most 2 together, at most 1 while
a read is live, every step that answers a next state leads to such a state. Rests on: 1.3 The staging queue;
1.8 The shadow pace and RETUNE completions; 9.4 Arrival and the checks. -/
def Obligations.StepKeepsLanesBounded : Prop :=
  ∀ s t : State, LanesBounded s → step s = .next t → LanesBounded t

/-- From every state in which, outside ON, every lane is OFF and empty, no pin is owned, every block is free
in ascending order, every wait list, queue and FIFO is empty, no write is in flight and no timer runs, and in
which CONTROL, the setup error code, the setup read and the fault cause fit the device state, every step that
answers a next state leads to such a state. Rests on: 1.2 Run states; 10.3 Write errors and the device FAULT;
11.1 Register accesses; 11.2 Commands and device states; 11.4 DISABLE and RESET. -/
def Obligations.StepKeepsOffEmptyAndRegistersSound : Prop :=
  ∀ s t : State, OffIsEmpty s ∧ WindowSound s → step s = .next t → OffIsEmpty t ∧ WindowSound t

/-- From every state in which each TRIPPED lane owns no pin, has no claim waiting, no shadow pace, no active
entry outside RETIRING, and nothing staged but failed entries, marked loads and RESUMEs, every step that
answers a next state leads to such a state: no BURST reaches CLAIMING, GROUP_WAIT, TIME_WAIT or PLAYING in a
TRIPPED lane. Rests on: 1.2 Run states; 8.5 A TRIPPED lane and RESUME. -/
def Obligations.StepKeepsTrippedLanesDrained : Prop :=
  ∀ s t : State, TrippedIsDrained s → step s = .next t → TrippedIsDrained t

/-- From every state in which each staged or active BURST that has not failed passed its checks and holds the
blocks it needs once granted, each play engine stands at a play of its sequence with an accumulator of 0 to
31, a pace whose I exceeds the strobe offset and a period of I or I+1 ticks, and each allocation request asks
its oldest waiting entry's need, every step that answers a next state leads to such a state. Rests on: 2.1
Blocks and block lists; 2.3 The allocation wait queue; 5.1 The play engine; 6.3 Pace. -/
def Obligations.StepKeepsBurstsFit : Prop :=
  ∀ s t : State, BurstsFit s → step s = .next t → BurstsFit t

/-- From every state whose Vector Store is in its canonical form, whose capture FIFO holds at most 32 records
and in which no pin's stability count exceeds its qualifier count, every step that answers a next state leads
to such a state. Rests on: 2.1 Blocks and block lists; 7.1 The qualifier; 7.3 The capture FIFO and lost edges.
-/
def Obligations.StepKeepsBuffersSound : Prop :=
  ∀ s t : State, StoreCanonical s ∧ FifoBounded s ∧ StabilityBounded s → step s = .next t → StoreCanonical t ∧ FifoBounded t ∧ StabilityBounded t

/-- From every state whose bursts are fit, every well-formed command answers a next state, and so does every
step whose front command, if any, is well formed: no command of the table faults or is refused. Rests on: 5.7
Play against the rest of the part; 2.1 Blocks and block lists; 11.2 Commands and device states. -/
def Obligations.WellFormedCommandsComplete : Prop :=
  ∀ s : State, BurstsFit s →
    (∀ c : Instr, c.wellFormed = true → ∃ t, exec c s = .next t)
    ∧ ((∀ c ∈ s.pending.head?, c.wellFormed = true) → ∃ t, step s = .next t)

/-- The state after reset meets every invariant: blocks partitioned, store canonical, pins, groups, queues,
lanes and rings sound, nothing presenting, empty outside ON, registers sound, bursts fit. Rests on: 1.1 What a
lane holds; 2.2 The free list; 3.1 The pin entry; 4.1 The group entry; 10.1 The Post Queue; 11.4 DISABLE and
RESET. -/
def Obligations.ResetStateIsSound : Prop :=
  Sound State.reset

end
end

