-- ==== Sys2Proof/Laws/State.lean ====
section
/-! SUPPORT. What each named update of the state leaves as it was, one lemma a field, and what it sets. -/

namespace Sys2Proof.Machine

/-! ### Tables -/

/-- Reading a table after a write to it. -/
theorem setTable_get {α : Type} {n : Nat} (v : Vector α n) (i j : Fin n) (x : α) :
    (setTable v i x).get j = if i = j then x else v.get j := by
  simp only [setTable, Vector.get_eq_getElem, Vector.getElem_set, Fin.ext_iff]

/-- Element `i` of a mapped list. -/
theorem mapFrom_getElem? {α : Type} (f : Nat → α → α) (k i : Nat) (xs : List α) :
    (mapFrom f k xs)[i]? = xs[i]?.map (f (k + i)) := by
  induction xs generalizing k i with
  | nil => simp [mapFrom]
  | cons x xs ih =>
    cases i with
    | zero => simp [mapFrom]
    | succ i => simp [mapFrom, ih, Nat.add_comm, Nat.add_left_comm]

/-- The list of a mapped table. -/
theorem mapTable_toList {α : Type} {n : Nat} (f : Nat → α → α) (v : Vector α n) :
    (mapTable f v).toList = mapFrom f 0 v.toList := by
  simp [mapTable, Vector.toList]

/-- Element `i` of a mapped table. -/
@[simp] theorem mapTable_get {α : Type} {n : Nat} (f : Nat → α → α) (v : Vector α n) (i : Fin n) :
    (mapTable f v).get i = f i.val (v.get i) := by
  have h := mapFrom_getElem? f 0 i.val v.toList
  rw [← mapTable_toList] at h
  simpa [Vector.get_eq_getElem] using h

/-! ### Lanes, groups, trip sets -/

@[simp] theorem State.lane_setLane (s : State) (l k : LaneId) (x : LaneState) :
    (s.setLane l x).lane k = if l = k then x else s.lane k := setTable_get s.lanes l k x

@[simp] theorem State.group_setGroup (s : State) (g h : GroupId) (x : Group) :
    (s.setGroup g x).group h = if g = h then x else s.group h := setTable_get s.groups g h x

@[simp] theorem State.trip_setTrip (s : State) (i j : SetId) (x : TripSet) :
    (s.setTrip i x).trip j = if i = j then x else s.trip j := setTable_get s.trips i j x

@[simp] theorem State.setActive_eq (s : State) (l : LaneId) (a : Option Active) :
    s.setActive l a = s.setLane l { s.lane l with active := a } := rfl

@[simp] theorem State.setStaging_eq (s : State) (l : LaneId) (q : List Entry) :
    s.setStaging l q = s.setLane l { s.lane l with staging := q } := rfl

/-! ### setLane -/

@[simp] theorem State.setLane_pending (s : State) (l : LaneId) (x : LaneState) : (s.setLane l x).pending = s.pending := rfl
@[simp] theorem State.setLane_timebase (s : State) (l : LaneId) (x : LaneState) : (s.setLane l x).timebase = s.timebase := rfl
@[simp] theorem State.setLane_window (s : State) (l : LaneId) (x : LaneState) : (s.setLane l x).window = s.window := rfl
@[simp] theorem State.setLane_port (s : State) (l : LaneId) (x : LaneState) : (s.setLane l x).port = s.port := rfl
@[simp] theorem State.setLane_lastLane (s : State) (l : LaneId) (x : LaneState) : (s.setLane l x).lastLane = s.lastLane := rfl
@[simp] theorem State.setLane_store (s : State) (l : LaneId) (x : LaneState) : (s.setLane l x).store = s.store := rfl
@[simp] theorem State.setLane_alloc (s : State) (l : LaneId) (x : LaneState) : (s.setLane l x).alloc = s.alloc := rfl
@[simp] theorem State.setLane_pins (s : State) (l : LaneId) (x : LaneState) : (s.setLane l x).pins = s.pins := rfl
@[simp] theorem State.setLane_claims (s : State) (l : LaneId) (x : LaneState) : (s.setLane l x).claims = s.claims := rfl
@[simp] theorem State.setLane_groups (s : State) (l : LaneId) (x : LaneState) : (s.setLane l x).groups = s.groups := rfl
@[simp] theorem State.setLane_qualifier (s : State) (l : LaneId) (x : LaneState) : (s.setLane l x).qualifier = s.qualifier := rfl
@[simp] theorem State.setLane_capture (s : State) (l : LaneId) (x : LaneState) : (s.setLane l x).capture = s.capture := rfl
@[simp] theorem State.setLane_captureRing (s : State) (l : LaneId) (x : LaneState) : (s.setLane l x).captureRing = s.captureRing := rfl
@[simp] theorem State.setLane_trips (s : State) (l : LaneId) (x : LaneState) : (s.setLane l x).trips = s.trips := rfl
@[simp] theorem State.setLane_post (s : State) (l : LaneId) (x : LaneState) : (s.setLane l x).post = s.post := rfl
@[simp] theorem State.setLane_completionRing (s : State) (l : LaneId) (x : LaneState) : (s.setLane l x).completionRing = s.completionRing := rfl
@[simp] theorem State.setLane_interrupt (s : State) (l : LaneId) (x : LaneState) : (s.setLane l x).interrupt = s.interrupt := rfl
@[simp] theorem State.setLane_outside (s : State) (l : LaneId) (x : LaneState) : (s.setLane l x).outside = s.outside := rfl
@[simp] theorem State.setLane_choices (s : State) (l : LaneId) (x : LaneState) : (s.setLane l x).choices = s.choices := rfl
@[simp] theorem State.setLane_group (s : State) (l : LaneId) (x : LaneState) (k : GroupId) : (s.setLane l x).group k = s.group k := rfl

/-! ### setGroup -/

@[simp] theorem State.setGroup_pending (s : State) (g : GroupId) (x : Group) : (s.setGroup g x).pending = s.pending := rfl
@[simp] theorem State.setGroup_timebase (s : State) (g : GroupId) (x : Group) : (s.setGroup g x).timebase = s.timebase := rfl
@[simp] theorem State.setGroup_window (s : State) (g : GroupId) (x : Group) : (s.setGroup g x).window = s.window := rfl
@[simp] theorem State.setGroup_port (s : State) (g : GroupId) (x : Group) : (s.setGroup g x).port = s.port := rfl
@[simp] theorem State.setGroup_lastLane (s : State) (g : GroupId) (x : Group) : (s.setGroup g x).lastLane = s.lastLane := rfl
@[simp] theorem State.setGroup_lanes (s : State) (g : GroupId) (x : Group) : (s.setGroup g x).lanes = s.lanes := rfl
@[simp] theorem State.setGroup_store (s : State) (g : GroupId) (x : Group) : (s.setGroup g x).store = s.store := rfl
@[simp] theorem State.setGroup_alloc (s : State) (g : GroupId) (x : Group) : (s.setGroup g x).alloc = s.alloc := rfl
@[simp] theorem State.setGroup_pins (s : State) (g : GroupId) (x : Group) : (s.setGroup g x).pins = s.pins := rfl
@[simp] theorem State.setGroup_claims (s : State) (g : GroupId) (x : Group) : (s.setGroup g x).claims = s.claims := rfl
@[simp] theorem State.setGroup_qualifier (s : State) (g : GroupId) (x : Group) : (s.setGroup g x).qualifier = s.qualifier := rfl
@[simp] theorem State.setGroup_capture (s : State) (g : GroupId) (x : Group) : (s.setGroup g x).capture = s.capture := rfl
@[simp] theorem State.setGroup_captureRing (s : State) (g : GroupId) (x : Group) : (s.setGroup g x).captureRing = s.captureRing := rfl
@[simp] theorem State.setGroup_trips (s : State) (g : GroupId) (x : Group) : (s.setGroup g x).trips = s.trips := rfl
@[simp] theorem State.setGroup_post (s : State) (g : GroupId) (x : Group) : (s.setGroup g x).post = s.post := rfl
@[simp] theorem State.setGroup_completionRing (s : State) (g : GroupId) (x : Group) : (s.setGroup g x).completionRing = s.completionRing := rfl
@[simp] theorem State.setGroup_interrupt (s : State) (g : GroupId) (x : Group) : (s.setGroup g x).interrupt = s.interrupt := rfl
@[simp] theorem State.setGroup_outside (s : State) (g : GroupId) (x : Group) : (s.setGroup g x).outside = s.outside := rfl
@[simp] theorem State.setGroup_choices (s : State) (g : GroupId) (x : Group) : (s.setGroup g x).choices = s.choices := rfl
@[simp] theorem State.setGroup_lane (s : State) (g : GroupId) (x : Group) (k : LaneId) : (s.setGroup g x).lane k = s.lane k := rfl

/-! ### setTrip -/

@[simp] theorem State.setTrip_pending (s : State) (i : SetId) (x : TripSet) : (s.setTrip i x).pending = s.pending := rfl
@[simp] theorem State.setTrip_timebase (s : State) (i : SetId) (x : TripSet) : (s.setTrip i x).timebase = s.timebase := rfl
@[simp] theorem State.setTrip_window (s : State) (i : SetId) (x : TripSet) : (s.setTrip i x).window = s.window := rfl
@[simp] theorem State.setTrip_port (s : State) (i : SetId) (x : TripSet) : (s.setTrip i x).port = s.port := rfl
@[simp] theorem State.setTrip_lastLane (s : State) (i : SetId) (x : TripSet) : (s.setTrip i x).lastLane = s.lastLane := rfl
@[simp] theorem State.setTrip_lanes (s : State) (i : SetId) (x : TripSet) : (s.setTrip i x).lanes = s.lanes := rfl
@[simp] theorem State.setTrip_store (s : State) (i : SetId) (x : TripSet) : (s.setTrip i x).store = s.store := rfl
@[simp] theorem State.setTrip_alloc (s : State) (i : SetId) (x : TripSet) : (s.setTrip i x).alloc = s.alloc := rfl
@[simp] theorem State.setTrip_pins (s : State) (i : SetId) (x : TripSet) : (s.setTrip i x).pins = s.pins := rfl
@[simp] theorem State.setTrip_claims (s : State) (i : SetId) (x : TripSet) : (s.setTrip i x).claims = s.claims := rfl
@[simp] theorem State.setTrip_groups (s : State) (i : SetId) (x : TripSet) : (s.setTrip i x).groups = s.groups := rfl
@[simp] theorem State.setTrip_qualifier (s : State) (i : SetId) (x : TripSet) : (s.setTrip i x).qualifier = s.qualifier := rfl
@[simp] theorem State.setTrip_capture (s : State) (i : SetId) (x : TripSet) : (s.setTrip i x).capture = s.capture := rfl
@[simp] theorem State.setTrip_captureRing (s : State) (i : SetId) (x : TripSet) : (s.setTrip i x).captureRing = s.captureRing := rfl
@[simp] theorem State.setTrip_post (s : State) (i : SetId) (x : TripSet) : (s.setTrip i x).post = s.post := rfl
@[simp] theorem State.setTrip_completionRing (s : State) (i : SetId) (x : TripSet) : (s.setTrip i x).completionRing = s.completionRing := rfl
@[simp] theorem State.setTrip_interrupt (s : State) (i : SetId) (x : TripSet) : (s.setTrip i x).interrupt = s.interrupt := rfl
@[simp] theorem State.setTrip_outside (s : State) (i : SetId) (x : TripSet) : (s.setTrip i x).outside = s.outside := rfl
@[simp] theorem State.setTrip_choices (s : State) (i : SetId) (x : TripSet) : (s.setTrip i x).choices = s.choices := rfl
@[simp] theorem State.setTrip_lane (s : State) (i : SetId) (x : TripSet) (k : LaneId) : (s.setTrip i x).lane k = s.lane k := rfl
@[simp] theorem State.setTrip_group (s : State) (i : SetId) (x : TripSet) (k : GroupId) : (s.setTrip i x).group k = s.group k := rfl

/-! ### issueOp -/

@[simp] theorem issueOp_pending (s : State) (b : BusSource) (a : Addr) (n : Nat) (p : List Byte) : (issueOp b a n p s).pending = s.pending := rfl
@[simp] theorem issueOp_timebase (s : State) (b : BusSource) (a : Addr) (n : Nat) (p : List Byte) : (issueOp b a n p s).timebase = s.timebase := rfl
@[simp] theorem issueOp_window (s : State) (b : BusSource) (a : Addr) (n : Nat) (p : List Byte) : (issueOp b a n p s).window = s.window := rfl
@[simp] theorem issueOp_lastLane (s : State) (b : BusSource) (a : Addr) (n : Nat) (p : List Byte) : (issueOp b a n p s).lastLane = s.lastLane := rfl
@[simp] theorem issueOp_lanes (s : State) (b : BusSource) (a : Addr) (n : Nat) (p : List Byte) : (issueOp b a n p s).lanes = s.lanes := rfl
@[simp] theorem issueOp_store (s : State) (b : BusSource) (a : Addr) (n : Nat) (p : List Byte) : (issueOp b a n p s).store = s.store := rfl
@[simp] theorem issueOp_alloc (s : State) (b : BusSource) (a : Addr) (n : Nat) (p : List Byte) : (issueOp b a n p s).alloc = s.alloc := rfl
@[simp] theorem issueOp_pins (s : State) (b : BusSource) (a : Addr) (n : Nat) (p : List Byte) : (issueOp b a n p s).pins = s.pins := rfl
@[simp] theorem issueOp_claims (s : State) (b : BusSource) (a : Addr) (n : Nat) (p : List Byte) : (issueOp b a n p s).claims = s.claims := rfl
@[simp] theorem issueOp_groups (s : State) (b : BusSource) (a : Addr) (n : Nat) (p : List Byte) : (issueOp b a n p s).groups = s.groups := rfl
@[simp] theorem issueOp_qualifier (s : State) (b : BusSource) (a : Addr) (n : Nat) (p : List Byte) : (issueOp b a n p s).qualifier = s.qualifier := rfl
@[simp] theorem issueOp_capture (s : State) (b : BusSource) (a : Addr) (n : Nat) (p : List Byte) : (issueOp b a n p s).capture = s.capture := rfl
@[simp] theorem issueOp_captureRing (s : State) (b : BusSource) (a : Addr) (n : Nat) (p : List Byte) : (issueOp b a n p s).captureRing = s.captureRing := rfl
@[simp] theorem issueOp_trips (s : State) (b : BusSource) (a : Addr) (n : Nat) (p : List Byte) : (issueOp b a n p s).trips = s.trips := rfl
@[simp] theorem issueOp_post (s : State) (b : BusSource) (a : Addr) (n : Nat) (p : List Byte) : (issueOp b a n p s).post = s.post := rfl
@[simp] theorem issueOp_completionRing (s : State) (b : BusSource) (a : Addr) (n : Nat) (p : List Byte) : (issueOp b a n p s).completionRing = s.completionRing := rfl
@[simp] theorem issueOp_interrupt (s : State) (b : BusSource) (a : Addr) (n : Nat) (p : List Byte) : (issueOp b a n p s).interrupt = s.interrupt := rfl
@[simp] theorem issueOp_outside (s : State) (b : BusSource) (a : Addr) (n : Nat) (p : List Byte) : (issueOp b a n p s).outside = s.outside := rfl
@[simp] theorem issueOp_choices (s : State) (b : BusSource) (a : Addr) (n : Nat) (p : List Byte) : (issueOp b a n p s).choices = s.choices := rfl
@[simp] theorem issueOp_lane (s : State) (b : BusSource) (a : Addr) (n : Nat) (p : List Byte) (k : LaneId) : (issueOp b a n p s).lane k = s.lane k := rfl
@[simp] theorem issueOp_group (s : State) (b : BusSource) (a : Addr) (n : Nat) (p : List Byte) (k : GroupId) : (issueOp b a n p s).group k = s.group k := rfl

/-! ### returnOp -/

@[simp] theorem returnOp_pending (s : State) (op : OpId) : (returnOp op s).pending = s.pending := rfl
@[simp] theorem returnOp_timebase (s : State) (op : OpId) : (returnOp op s).timebase = s.timebase := rfl
@[simp] theorem returnOp_window (s : State) (op : OpId) : (returnOp op s).window = s.window := rfl
@[simp] theorem returnOp_lastLane (s : State) (op : OpId) : (returnOp op s).lastLane = s.lastLane := rfl
@[simp] theorem returnOp_lanes (s : State) (op : OpId) : (returnOp op s).lanes = s.lanes := rfl
@[simp] theorem returnOp_store (s : State) (op : OpId) : (returnOp op s).store = s.store := rfl
@[simp] theorem returnOp_alloc (s : State) (op : OpId) : (returnOp op s).alloc = s.alloc := rfl
@[simp] theorem returnOp_pins (s : State) (op : OpId) : (returnOp op s).pins = s.pins := rfl
@[simp] theorem returnOp_claims (s : State) (op : OpId) : (returnOp op s).claims = s.claims := rfl
@[simp] theorem returnOp_groups (s : State) (op : OpId) : (returnOp op s).groups = s.groups := rfl
@[simp] theorem returnOp_qualifier (s : State) (op : OpId) : (returnOp op s).qualifier = s.qualifier := rfl
@[simp] theorem returnOp_capture (s : State) (op : OpId) : (returnOp op s).capture = s.capture := rfl
@[simp] theorem returnOp_captureRing (s : State) (op : OpId) : (returnOp op s).captureRing = s.captureRing := rfl
@[simp] theorem returnOp_trips (s : State) (op : OpId) : (returnOp op s).trips = s.trips := rfl
@[simp] theorem returnOp_post (s : State) (op : OpId) : (returnOp op s).post = s.post := rfl
@[simp] theorem returnOp_completionRing (s : State) (op : OpId) : (returnOp op s).completionRing = s.completionRing := rfl
@[simp] theorem returnOp_interrupt (s : State) (op : OpId) : (returnOp op s).interrupt = s.interrupt := rfl
@[simp] theorem returnOp_outside (s : State) (op : OpId) : (returnOp op s).outside = s.outside := rfl
@[simp] theorem returnOp_choices (s : State) (op : OpId) : (returnOp op s).choices = s.choices := rfl
@[simp] theorem returnOp_lane (s : State) (op : OpId) (k : LaneId) : (returnOp op s).lane k = s.lane k := rfl
@[simp] theorem returnOp_group (s : State) (op : OpId) (k : GroupId) : (returnOp op s).group k = s.group k := rfl

/-! ### freeBlocks -/

@[simp] theorem freeBlocks_pending (s : State) (bs : List Nat) : (freeBlocks bs s).pending = s.pending := rfl
@[simp] theorem freeBlocks_timebase (s : State) (bs : List Nat) : (freeBlocks bs s).timebase = s.timebase := rfl
@[simp] theorem freeBlocks_window (s : State) (bs : List Nat) : (freeBlocks bs s).window = s.window := rfl
@[simp] theorem freeBlocks_port (s : State) (bs : List Nat) : (freeBlocks bs s).port = s.port := rfl
@[simp] theorem freeBlocks_lastLane (s : State) (bs : List Nat) : (freeBlocks bs s).lastLane = s.lastLane := rfl
@[simp] theorem freeBlocks_lanes (s : State) (bs : List Nat) : (freeBlocks bs s).lanes = s.lanes := rfl
@[simp] theorem freeBlocks_store (s : State) (bs : List Nat) : (freeBlocks bs s).store = s.store := rfl
@[simp] theorem freeBlocks_pins (s : State) (bs : List Nat) : (freeBlocks bs s).pins = s.pins := rfl
@[simp] theorem freeBlocks_claims (s : State) (bs : List Nat) : (freeBlocks bs s).claims = s.claims := rfl
@[simp] theorem freeBlocks_groups (s : State) (bs : List Nat) : (freeBlocks bs s).groups = s.groups := rfl
@[simp] theorem freeBlocks_qualifier (s : State) (bs : List Nat) : (freeBlocks bs s).qualifier = s.qualifier := rfl
@[simp] theorem freeBlocks_capture (s : State) (bs : List Nat) : (freeBlocks bs s).capture = s.capture := rfl
@[simp] theorem freeBlocks_captureRing (s : State) (bs : List Nat) : (freeBlocks bs s).captureRing = s.captureRing := rfl
@[simp] theorem freeBlocks_trips (s : State) (bs : List Nat) : (freeBlocks bs s).trips = s.trips := rfl
@[simp] theorem freeBlocks_post (s : State) (bs : List Nat) : (freeBlocks bs s).post = s.post := rfl
@[simp] theorem freeBlocks_completionRing (s : State) (bs : List Nat) : (freeBlocks bs s).completionRing = s.completionRing := rfl
@[simp] theorem freeBlocks_interrupt (s : State) (bs : List Nat) : (freeBlocks bs s).interrupt = s.interrupt := rfl
@[simp] theorem freeBlocks_outside (s : State) (bs : List Nat) : (freeBlocks bs s).outside = s.outside := rfl
@[simp] theorem freeBlocks_choices (s : State) (bs : List Nat) : (freeBlocks bs s).choices = s.choices := rfl
@[simp] theorem freeBlocks_lane (s : State) (bs : List Nat) (k : LaneId) : (freeBlocks bs s).lane k = s.lane k := rfl
@[simp] theorem freeBlocks_group (s : State) (bs : List Nat) (k : GroupId) : (freeBlocks bs s).group k = s.group k := rfl

/-! ### withdrawRequests -/

@[simp] theorem withdrawRequests_pending (s : State) (l : LaneId) : (withdrawRequests l s).pending = s.pending := rfl
@[simp] theorem withdrawRequests_timebase (s : State) (l : LaneId) : (withdrawRequests l s).timebase = s.timebase := rfl
@[simp] theorem withdrawRequests_window (s : State) (l : LaneId) : (withdrawRequests l s).window = s.window := rfl
@[simp] theorem withdrawRequests_port (s : State) (l : LaneId) : (withdrawRequests l s).port = s.port := rfl
@[simp] theorem withdrawRequests_lastLane (s : State) (l : LaneId) : (withdrawRequests l s).lastLane = s.lastLane := rfl
@[simp] theorem withdrawRequests_lanes (s : State) (l : LaneId) : (withdrawRequests l s).lanes = s.lanes := rfl
@[simp] theorem withdrawRequests_store (s : State) (l : LaneId) : (withdrawRequests l s).store = s.store := rfl
@[simp] theorem withdrawRequests_pins (s : State) (l : LaneId) : (withdrawRequests l s).pins = s.pins := rfl
@[simp] theorem withdrawRequests_claims (s : State) (l : LaneId) : (withdrawRequests l s).claims = s.claims := rfl
@[simp] theorem withdrawRequests_groups (s : State) (l : LaneId) : (withdrawRequests l s).groups = s.groups := rfl
@[simp] theorem withdrawRequests_qualifier (s : State) (l : LaneId) : (withdrawRequests l s).qualifier = s.qualifier := rfl
@[simp] theorem withdrawRequests_capture (s : State) (l : LaneId) : (withdrawRequests l s).capture = s.capture := rfl
@[simp] theorem withdrawRequests_captureRing (s : State) (l : LaneId) : (withdrawRequests l s).captureRing = s.captureRing := rfl
@[simp] theorem withdrawRequests_trips (s : State) (l : LaneId) : (withdrawRequests l s).trips = s.trips := rfl
@[simp] theorem withdrawRequests_post (s : State) (l : LaneId) : (withdrawRequests l s).post = s.post := rfl
@[simp] theorem withdrawRequests_completionRing (s : State) (l : LaneId) : (withdrawRequests l s).completionRing = s.completionRing := rfl
@[simp] theorem withdrawRequests_interrupt (s : State) (l : LaneId) : (withdrawRequests l s).interrupt = s.interrupt := rfl
@[simp] theorem withdrawRequests_outside (s : State) (l : LaneId) : (withdrawRequests l s).outside = s.outside := rfl
@[simp] theorem withdrawRequests_choices (s : State) (l : LaneId) : (withdrawRequests l s).choices = s.choices := rfl
@[simp] theorem withdrawRequests_lane (s : State) (l : LaneId) (k : LaneId) : (withdrawRequests l s).lane k = s.lane k := rfl
@[simp] theorem withdrawRequests_group (s : State) (l : LaneId) (k : GroupId) : (withdrawRequests l s).group k = s.group k := rfl

/-! ### withdrawClaim -/

@[simp] theorem withdrawClaim_pending (s : State) (l : LaneId) : (withdrawClaim l s).pending = s.pending := rfl
@[simp] theorem withdrawClaim_timebase (s : State) (l : LaneId) : (withdrawClaim l s).timebase = s.timebase := rfl
@[simp] theorem withdrawClaim_window (s : State) (l : LaneId) : (withdrawClaim l s).window = s.window := rfl
@[simp] theorem withdrawClaim_port (s : State) (l : LaneId) : (withdrawClaim l s).port = s.port := rfl
@[simp] theorem withdrawClaim_lastLane (s : State) (l : LaneId) : (withdrawClaim l s).lastLane = s.lastLane := rfl
@[simp] theorem withdrawClaim_lanes (s : State) (l : LaneId) : (withdrawClaim l s).lanes = s.lanes := rfl
@[simp] theorem withdrawClaim_store (s : State) (l : LaneId) : (withdrawClaim l s).store = s.store := rfl
@[simp] theorem withdrawClaim_alloc (s : State) (l : LaneId) : (withdrawClaim l s).alloc = s.alloc := rfl
@[simp] theorem withdrawClaim_pins (s : State) (l : LaneId) : (withdrawClaim l s).pins = s.pins := rfl
@[simp] theorem withdrawClaim_groups (s : State) (l : LaneId) : (withdrawClaim l s).groups = s.groups := rfl
@[simp] theorem withdrawClaim_qualifier (s : State) (l : LaneId) : (withdrawClaim l s).qualifier = s.qualifier := rfl
@[simp] theorem withdrawClaim_capture (s : State) (l : LaneId) : (withdrawClaim l s).capture = s.capture := rfl
@[simp] theorem withdrawClaim_captureRing (s : State) (l : LaneId) : (withdrawClaim l s).captureRing = s.captureRing := rfl
@[simp] theorem withdrawClaim_trips (s : State) (l : LaneId) : (withdrawClaim l s).trips = s.trips := rfl
@[simp] theorem withdrawClaim_post (s : State) (l : LaneId) : (withdrawClaim l s).post = s.post := rfl
@[simp] theorem withdrawClaim_completionRing (s : State) (l : LaneId) : (withdrawClaim l s).completionRing = s.completionRing := rfl
@[simp] theorem withdrawClaim_interrupt (s : State) (l : LaneId) : (withdrawClaim l s).interrupt = s.interrupt := rfl
@[simp] theorem withdrawClaim_outside (s : State) (l : LaneId) : (withdrawClaim l s).outside = s.outside := rfl
@[simp] theorem withdrawClaim_choices (s : State) (l : LaneId) : (withdrawClaim l s).choices = s.choices := rfl
@[simp] theorem withdrawClaim_lane (s : State) (l : LaneId) (k : LaneId) : (withdrawClaim l s).lane k = s.lane k := rfl
@[simp] theorem withdrawClaim_group (s : State) (l : LaneId) (k : GroupId) : (withdrawClaim l s).group k = s.group k := rfl

/-! ### postRecord -/

@[simp] theorem postRecord_pending (s : State) (p : PostSource) (c : Completion) : (postRecord p c s).pending = s.pending := rfl
@[simp] theorem postRecord_timebase (s : State) (p : PostSource) (c : Completion) : (postRecord p c s).timebase = s.timebase := rfl
@[simp] theorem postRecord_window (s : State) (p : PostSource) (c : Completion) : (postRecord p c s).window = s.window := rfl
@[simp] theorem postRecord_port (s : State) (p : PostSource) (c : Completion) : (postRecord p c s).port = s.port := rfl
@[simp] theorem postRecord_lastLane (s : State) (p : PostSource) (c : Completion) : (postRecord p c s).lastLane = s.lastLane := rfl
@[simp] theorem postRecord_lanes (s : State) (p : PostSource) (c : Completion) : (postRecord p c s).lanes = s.lanes := rfl
@[simp] theorem postRecord_store (s : State) (p : PostSource) (c : Completion) : (postRecord p c s).store = s.store := rfl
@[simp] theorem postRecord_alloc (s : State) (p : PostSource) (c : Completion) : (postRecord p c s).alloc = s.alloc := rfl
@[simp] theorem postRecord_pins (s : State) (p : PostSource) (c : Completion) : (postRecord p c s).pins = s.pins := rfl
@[simp] theorem postRecord_claims (s : State) (p : PostSource) (c : Completion) : (postRecord p c s).claims = s.claims := rfl
@[simp] theorem postRecord_groups (s : State) (p : PostSource) (c : Completion) : (postRecord p c s).groups = s.groups := rfl
@[simp] theorem postRecord_qualifier (s : State) (p : PostSource) (c : Completion) : (postRecord p c s).qualifier = s.qualifier := rfl
@[simp] theorem postRecord_capture (s : State) (p : PostSource) (c : Completion) : (postRecord p c s).capture = s.capture := rfl
@[simp] theorem postRecord_captureRing (s : State) (p : PostSource) (c : Completion) : (postRecord p c s).captureRing = s.captureRing := rfl
@[simp] theorem postRecord_trips (s : State) (p : PostSource) (c : Completion) : (postRecord p c s).trips = s.trips := rfl
@[simp] theorem postRecord_completionRing (s : State) (p : PostSource) (c : Completion) : (postRecord p c s).completionRing = s.completionRing := rfl
@[simp] theorem postRecord_interrupt (s : State) (p : PostSource) (c : Completion) : (postRecord p c s).interrupt = s.interrupt := rfl
@[simp] theorem postRecord_outside (s : State) (p : PostSource) (c : Completion) : (postRecord p c s).outside = s.outside := rfl
@[simp] theorem postRecord_choices (s : State) (p : PostSource) (c : Completion) : (postRecord p c s).choices = s.choices := rfl
@[simp] theorem postRecord_lane (s : State) (p : PostSource) (c : Completion) (k : LaneId) : (postRecord p c s).lane k = s.lane k := rfl
@[simp] theorem postRecord_group (s : State) (p : PostSource) (c : Completion) (k : GroupId) : (postRecord p c s).group k = s.group k := rfl

/-! ### releaseLane -/

@[simp] theorem releaseLane_pending (s : State) (l : LaneId) : (releaseLane l s).pending = s.pending := rfl
@[simp] theorem releaseLane_timebase (s : State) (l : LaneId) : (releaseLane l s).timebase = s.timebase := rfl
@[simp] theorem releaseLane_window (s : State) (l : LaneId) : (releaseLane l s).window = s.window := rfl
@[simp] theorem releaseLane_port (s : State) (l : LaneId) : (releaseLane l s).port = s.port := rfl
@[simp] theorem releaseLane_lastLane (s : State) (l : LaneId) : (releaseLane l s).lastLane = s.lastLane := rfl
@[simp] theorem releaseLane_lanes (s : State) (l : LaneId) : (releaseLane l s).lanes = s.lanes := rfl
@[simp] theorem releaseLane_store (s : State) (l : LaneId) : (releaseLane l s).store = s.store := rfl
@[simp] theorem releaseLane_alloc (s : State) (l : LaneId) : (releaseLane l s).alloc = s.alloc := rfl
@[simp] theorem releaseLane_claims (s : State) (l : LaneId) : (releaseLane l s).claims = s.claims := rfl
@[simp] theorem releaseLane_groups (s : State) (l : LaneId) : (releaseLane l s).groups = s.groups := rfl
@[simp] theorem releaseLane_qualifier (s : State) (l : LaneId) : (releaseLane l s).qualifier = s.qualifier := rfl
@[simp] theorem releaseLane_capture (s : State) (l : LaneId) : (releaseLane l s).capture = s.capture := rfl
@[simp] theorem releaseLane_captureRing (s : State) (l : LaneId) : (releaseLane l s).captureRing = s.captureRing := rfl
@[simp] theorem releaseLane_trips (s : State) (l : LaneId) : (releaseLane l s).trips = s.trips := rfl
@[simp] theorem releaseLane_post (s : State) (l : LaneId) : (releaseLane l s).post = s.post := rfl
@[simp] theorem releaseLane_completionRing (s : State) (l : LaneId) : (releaseLane l s).completionRing = s.completionRing := rfl
@[simp] theorem releaseLane_interrupt (s : State) (l : LaneId) : (releaseLane l s).interrupt = s.interrupt := rfl
@[simp] theorem releaseLane_outside (s : State) (l : LaneId) : (releaseLane l s).outside = s.outside := rfl
@[simp] theorem releaseLane_choices (s : State) (l : LaneId) : (releaseLane l s).choices = s.choices := rfl
@[simp] theorem releaseLane_lane (s : State) (l : LaneId) (k : LaneId) : (releaseLane l s).lane k = s.lane k := rfl
@[simp] theorem releaseLane_group (s : State) (l : LaneId) (k : GroupId) : (releaseLane l s).group k = s.group k := rfl

/-! ### holdLane -/

@[simp] theorem holdLane_pending (s : State) (l : LaneId) : (holdLane l s).pending = s.pending := rfl
@[simp] theorem holdLane_timebase (s : State) (l : LaneId) : (holdLane l s).timebase = s.timebase := rfl
@[simp] theorem holdLane_window (s : State) (l : LaneId) : (holdLane l s).window = s.window := rfl
@[simp] theorem holdLane_port (s : State) (l : LaneId) : (holdLane l s).port = s.port := rfl
@[simp] theorem holdLane_lastLane (s : State) (l : LaneId) : (holdLane l s).lastLane = s.lastLane := rfl
@[simp] theorem holdLane_lanes (s : State) (l : LaneId) : (holdLane l s).lanes = s.lanes := rfl
@[simp] theorem holdLane_store (s : State) (l : LaneId) : (holdLane l s).store = s.store := rfl
@[simp] theorem holdLane_alloc (s : State) (l : LaneId) : (holdLane l s).alloc = s.alloc := rfl
@[simp] theorem holdLane_claims (s : State) (l : LaneId) : (holdLane l s).claims = s.claims := rfl
@[simp] theorem holdLane_groups (s : State) (l : LaneId) : (holdLane l s).groups = s.groups := rfl
@[simp] theorem holdLane_qualifier (s : State) (l : LaneId) : (holdLane l s).qualifier = s.qualifier := rfl
@[simp] theorem holdLane_capture (s : State) (l : LaneId) : (holdLane l s).capture = s.capture := rfl
@[simp] theorem holdLane_captureRing (s : State) (l : LaneId) : (holdLane l s).captureRing = s.captureRing := rfl
@[simp] theorem holdLane_trips (s : State) (l : LaneId) : (holdLane l s).trips = s.trips := rfl
@[simp] theorem holdLane_post (s : State) (l : LaneId) : (holdLane l s).post = s.post := rfl
@[simp] theorem holdLane_completionRing (s : State) (l : LaneId) : (holdLane l s).completionRing = s.completionRing := rfl
@[simp] theorem holdLane_interrupt (s : State) (l : LaneId) : (holdLane l s).interrupt = s.interrupt := rfl
@[simp] theorem holdLane_outside (s : State) (l : LaneId) : (holdLane l s).outside = s.outside := rfl
@[simp] theorem holdLane_choices (s : State) (l : LaneId) : (holdLane l s).choices = s.choices := rfl
@[simp] theorem holdLane_lane (s : State) (l : LaneId) (k : LaneId) : (holdLane l s).lane k = s.lane k := rfl
@[simp] theorem holdLane_group (s : State) (l : LaneId) (k : GroupId) : (holdLane l s).group k = s.group k := rfl

/-! ### grantClaim -/

@[simp] theorem grantClaim_pending (s : State) (l : LaneId) (d e : Pins) : (grantClaim l d e s).pending = s.pending := rfl
@[simp] theorem grantClaim_timebase (s : State) (l : LaneId) (d e : Pins) : (grantClaim l d e s).timebase = s.timebase := rfl
@[simp] theorem grantClaim_window (s : State) (l : LaneId) (d e : Pins) : (grantClaim l d e s).window = s.window := rfl
@[simp] theorem grantClaim_port (s : State) (l : LaneId) (d e : Pins) : (grantClaim l d e s).port = s.port := rfl
@[simp] theorem grantClaim_lastLane (s : State) (l : LaneId) (d e : Pins) : (grantClaim l d e s).lastLane = s.lastLane := rfl
@[simp] theorem grantClaim_lanes (s : State) (l : LaneId) (d e : Pins) : (grantClaim l d e s).lanes = s.lanes := rfl
@[simp] theorem grantClaim_store (s : State) (l : LaneId) (d e : Pins) : (grantClaim l d e s).store = s.store := rfl
@[simp] theorem grantClaim_alloc (s : State) (l : LaneId) (d e : Pins) : (grantClaim l d e s).alloc = s.alloc := rfl
@[simp] theorem grantClaim_claims (s : State) (l : LaneId) (d e : Pins) : (grantClaim l d e s).claims = s.claims := rfl
@[simp] theorem grantClaim_groups (s : State) (l : LaneId) (d e : Pins) : (grantClaim l d e s).groups = s.groups := rfl
@[simp] theorem grantClaim_qualifier (s : State) (l : LaneId) (d e : Pins) : (grantClaim l d e s).qualifier = s.qualifier := rfl
@[simp] theorem grantClaim_capture (s : State) (l : LaneId) (d e : Pins) : (grantClaim l d e s).capture = s.capture := rfl
@[simp] theorem grantClaim_captureRing (s : State) (l : LaneId) (d e : Pins) : (grantClaim l d e s).captureRing = s.captureRing := rfl
@[simp] theorem grantClaim_trips (s : State) (l : LaneId) (d e : Pins) : (grantClaim l d e s).trips = s.trips := rfl
@[simp] theorem grantClaim_post (s : State) (l : LaneId) (d e : Pins) : (grantClaim l d e s).post = s.post := rfl
@[simp] theorem grantClaim_completionRing (s : State) (l : LaneId) (d e : Pins) : (grantClaim l d e s).completionRing = s.completionRing := rfl
@[simp] theorem grantClaim_interrupt (s : State) (l : LaneId) (d e : Pins) : (grantClaim l d e s).interrupt = s.interrupt := rfl
@[simp] theorem grantClaim_outside (s : State) (l : LaneId) (d e : Pins) : (grantClaim l d e s).outside = s.outside := rfl
@[simp] theorem grantClaim_choices (s : State) (l : LaneId) (d e : Pins) : (grantClaim l d e s).choices = s.choices := rfl
@[simp] theorem grantClaim_lane (s : State) (l : LaneId) (d e : Pins) (k : LaneId) : (grantClaim l d e s).lane k = s.lane k := rfl
@[simp] theorem grantClaim_group (s : State) (l : LaneId) (d e : Pins) (k : GroupId) : (grantClaim l d e s).group k = s.group k := rfl

/-! ### driveUpdate -/

@[simp] theorem driveUpdate_pending (s : State) (l : LaneId) (v : Pins) : (driveUpdate l v s).pending = s.pending := rfl
@[simp] theorem driveUpdate_timebase (s : State) (l : LaneId) (v : Pins) : (driveUpdate l v s).timebase = s.timebase := rfl
@[simp] theorem driveUpdate_window (s : State) (l : LaneId) (v : Pins) : (driveUpdate l v s).window = s.window := rfl
@[simp] theorem driveUpdate_port (s : State) (l : LaneId) (v : Pins) : (driveUpdate l v s).port = s.port := rfl
@[simp] theorem driveUpdate_lastLane (s : State) (l : LaneId) (v : Pins) : (driveUpdate l v s).lastLane = s.lastLane := rfl
@[simp] theorem driveUpdate_lanes (s : State) (l : LaneId) (v : Pins) : (driveUpdate l v s).lanes = s.lanes := rfl
@[simp] theorem driveUpdate_store (s : State) (l : LaneId) (v : Pins) : (driveUpdate l v s).store = s.store := rfl
@[simp] theorem driveUpdate_alloc (s : State) (l : LaneId) (v : Pins) : (driveUpdate l v s).alloc = s.alloc := rfl
@[simp] theorem driveUpdate_claims (s : State) (l : LaneId) (v : Pins) : (driveUpdate l v s).claims = s.claims := rfl
@[simp] theorem driveUpdate_groups (s : State) (l : LaneId) (v : Pins) : (driveUpdate l v s).groups = s.groups := rfl
@[simp] theorem driveUpdate_qualifier (s : State) (l : LaneId) (v : Pins) : (driveUpdate l v s).qualifier = s.qualifier := rfl
@[simp] theorem driveUpdate_capture (s : State) (l : LaneId) (v : Pins) : (driveUpdate l v s).capture = s.capture := rfl
@[simp] theorem driveUpdate_captureRing (s : State) (l : LaneId) (v : Pins) : (driveUpdate l v s).captureRing = s.captureRing := rfl
@[simp] theorem driveUpdate_trips (s : State) (l : LaneId) (v : Pins) : (driveUpdate l v s).trips = s.trips := rfl
@[simp] theorem driveUpdate_post (s : State) (l : LaneId) (v : Pins) : (driveUpdate l v s).post = s.post := rfl
@[simp] theorem driveUpdate_completionRing (s : State) (l : LaneId) (v : Pins) : (driveUpdate l v s).completionRing = s.completionRing := rfl
@[simp] theorem driveUpdate_interrupt (s : State) (l : LaneId) (v : Pins) : (driveUpdate l v s).interrupt = s.interrupt := rfl
@[simp] theorem driveUpdate_outside (s : State) (l : LaneId) (v : Pins) : (driveUpdate l v s).outside = s.outside := rfl
@[simp] theorem driveUpdate_choices (s : State) (l : LaneId) (v : Pins) : (driveUpdate l v s).choices = s.choices := rfl
@[simp] theorem driveUpdate_lane (s : State) (l : LaneId) (v : Pins) (k : LaneId) : (driveUpdate l v s).lane k = s.lane k := rfl
@[simp] theorem driveUpdate_group (s : State) (l : LaneId) (v : Pins) (k : GroupId) : (driveUpdate l v s).group k = s.group k := rfl

/-! ### leaveGroups -/

@[simp] theorem leaveGroups_pending (s : State) (l : LaneId) : (leaveGroups l s).pending = s.pending := rfl
@[simp] theorem leaveGroups_timebase (s : State) (l : LaneId) : (leaveGroups l s).timebase = s.timebase := rfl
@[simp] theorem leaveGroups_window (s : State) (l : LaneId) : (leaveGroups l s).window = s.window := rfl
@[simp] theorem leaveGroups_port (s : State) (l : LaneId) : (leaveGroups l s).port = s.port := rfl
@[simp] theorem leaveGroups_lastLane (s : State) (l : LaneId) : (leaveGroups l s).lastLane = s.lastLane := rfl
@[simp] theorem leaveGroups_lanes (s : State) (l : LaneId) : (leaveGroups l s).lanes = s.lanes := rfl
@[simp] theorem leaveGroups_store (s : State) (l : LaneId) : (leaveGroups l s).store = s.store := rfl
@[simp] theorem leaveGroups_alloc (s : State) (l : LaneId) : (leaveGroups l s).alloc = s.alloc := rfl
@[simp] theorem leaveGroups_pins (s : State) (l : LaneId) : (leaveGroups l s).pins = s.pins := rfl
@[simp] theorem leaveGroups_claims (s : State) (l : LaneId) : (leaveGroups l s).claims = s.claims := rfl
@[simp] theorem leaveGroups_qualifier (s : State) (l : LaneId) : (leaveGroups l s).qualifier = s.qualifier := rfl
@[simp] theorem leaveGroups_capture (s : State) (l : LaneId) : (leaveGroups l s).capture = s.capture := rfl
@[simp] theorem leaveGroups_captureRing (s : State) (l : LaneId) : (leaveGroups l s).captureRing = s.captureRing := rfl
@[simp] theorem leaveGroups_trips (s : State) (l : LaneId) : (leaveGroups l s).trips = s.trips := rfl
@[simp] theorem leaveGroups_post (s : State) (l : LaneId) : (leaveGroups l s).post = s.post := rfl
@[simp] theorem leaveGroups_completionRing (s : State) (l : LaneId) : (leaveGroups l s).completionRing = s.completionRing := rfl
@[simp] theorem leaveGroups_interrupt (s : State) (l : LaneId) : (leaveGroups l s).interrupt = s.interrupt := rfl
@[simp] theorem leaveGroups_outside (s : State) (l : LaneId) : (leaveGroups l s).outside = s.outside := rfl
@[simp] theorem leaveGroups_choices (s : State) (l : LaneId) : (leaveGroups l s).choices = s.choices := rfl
@[simp] theorem leaveGroups_lane (s : State) (l : LaneId) (k : LaneId) : (leaveGroups l s).lane k = s.lane k := rfl

end Sys2Proof.Machine
end

