-- ==== Sys2Proof/Laws/Frame.lean ====
section
/-! SUPPORT. What the Host Port's turns and the work of one event leave as it was: one lemma for each shared
operation, which the proofs about single commands cite. -/

namespace Sys2Proof.Machine

/-! ### The Host Port's turns (R163) -/

theorem PortFrame.refl (s : State) : PortFrame s s := by
  constructor <;> simp
  exact fun _ _ _ h _ => h

theorem PortFrame.trans {s t u : State} (h : PortFrame s t) (k : PortFrame t u) : PortFrame s u where
  pending := k.pending.trans h.pending
  timebase := k.timebase.trans h.timebase
  window := k.window.trans h.window
  lanes l := (k.lanes l).trans (h.lanes l)
  store := k.store.trans h.store
  alloc := k.alloc.trans h.alloc
  pins := k.pins.trans h.pins
  claims := k.claims.trans h.claims
  groups := k.groups.trans h.groups
  qualifier := k.qualifier.trans h.qualifier
  capture := k.capture.trans h.capture
  captureRing := k.captureRing.trans h.captureRing
  trips := k.trips.trans h.trips
  post := k.post.trans h.post
  completionRing := k.completionRing.trans h.completionRing
  interrupt := k.interrupt.trans h.interrupt
  outside := k.outside.trans h.outside
  choices := k.choices.trans h.choices
  bus := h.bus.trans k.bus
  fetch l hl := by
    have h1 := h.fetch l hl
    have h2 := k.fetch l (by rw [h1.1]; exact hl)
    exact ⟨h2.1.trans h1.1, h2.2.trans h1.2⟩
  loads l n e he hw := k.loads l n e (h.loads l n e he hw) hw
  completionWriting hw := by
    have h1 := h.completionWriting hw
    exact (k.completionWriting (by rw [h1]; exact hw)).trans h1
  captureWriting hw := by
    have h1 := h.captureWriting hw
    exact (k.captureWriting (by rw [h1]; exact hw)).trans h1

/-- Starting a load read changes an entry's load progress alone. -/
theorem startOldestRead_unread (op : OpId) (q : List Entry) :
    (startOldestRead op q).2.map Entry.unread = q.map Entry.unread := by
  induction q with
  | nil => rfl
  | cons e q ih =>
    simp only [startOldestRead]
    split <;> simp [ih, Entry.startRead, Entry.unread]

/-- Starting a load read leaves an entry that wants none as it was. -/
theorem startOldestRead_other (op : OpId) (q : List Entry) (k : Nat) (e : Entry) (h : q[k]? = some e)
    (hw : e.state ≠ .loading ∨ e.status ≠ none ∨ e.reading ≠ none ∨ e.blocks.length ≤ e.issued) :
    (startOldestRead op q).2[k]? = some e := by
  have hn : e.wantsRead = false := by
    simp only [Entry.wantsRead, Bool.and_eq_false_iff]
    rcases hw with h | h | h | h
    · exact .inl (.inl (.inl (by simpa using h)))
    · exact .inl (.inl (.inr (by simpa [Option.isSome_iff_ne_none] using h)))
    · exact .inl (.inr (by simpa [Option.isSome_iff_ne_none] using h))
    · exact .inr (by simpa using h)
  induction q generalizing k with
  | nil => simp at h
  | cons x q ih =>
    simp only [startOldestRead]
    cases k with
    | zero =>
      simp only [List.getElem?_cons_zero, Option.some.injEq] at h
      subst h
      simp [hn]
    | succ k =>
      simp only [List.getElem?_cons_succ] at h
      split
      · simpa using h
      · simpa using ih k h

theorem chooseLane_eligible {s : State} {l : LaneId} (h : chooseLane s = some l) : eligible s l = true :=
  List.find?_some h

theorem eligible_fetch {s : State} {l : LaneId} (h : eligible s l = true) : (s.lane l).fetch = .none := by
  simp only [eligible, LaneState.eligible, Bool.and_eq_true, beq_iff_eq] at h
  exact h.2.1.2

/-- One turn of a requester that presents. -/
theorem issueTurn_frame (r : Requester) (s : State) (hp : presents s r = true) :
    PortFrame s (issueTurn r s) := by
  cases r with
  | fetch =>
    simp only [issueTurn]
    cases hc : chooseLane s with
    | none =>
      constructor <;> simp [State.lane]
      exact fun _ _ _ h _ => h
    | some l =>
      have hf := eligible_fetch (chooseLane_eligible hc)
      simp only [issueFetch]
      constructor <;> simp [State.lane]
      · intro k
        rw [show ((issueOp (.fetch l) (slotAddress (s.lanes.get l).base (s.lanes.get l).consumer) 64 [] s).setLane l
            { s.lanes.get l with fetch := .live s.port.nextOp, reserved := true }).lanes.get k = _ from
            State.lane_setLane _ l k _]
        split
        · subst_vars; rfl
        · rfl
      · simp [issueOp]
      · intro k hk
        rw [show ((issueOp (.fetch l) (slotAddress (s.lanes.get l).base (s.lanes.get l).consumer) 64 [] s).setLane l
            { s.lanes.get l with fetch := .live s.port.nextOp, reserved := true }).lanes.get k = _ from
            State.lane_setLane _ l k _]
        split
        · subst_vars; exact absurd hf hk
        · exact ⟨rfl, rfl⟩
      · intro k n e he _
        rw [show ((issueOp (.fetch l) (slotAddress (s.lanes.get l).base (s.lanes.get l).consumer) 64 [] s).setLane l
            { s.lanes.get l with fetch := .live s.port.nextOp, reserved := true }).lanes.get k = _ from
            State.lane_setLane _ l k _]
        split
        · subst_vars; exact he
        · exact he
  | loader l =>
    simp only [issueTurn, issueLoad]
    split
    · constructor <;> simp [State.lane]
      exact fun _ _ _ h _ => h
    · constructor <;> simp [State.lane]
      · intro k
        rw [show (s.setLane l { s.lanes.get l with
            staging := (startOldestRead s.port.nextOp (s.lanes.get l).staging).2 }).lanes.get k = _ from
            State.lane_setLane _ l k _]
        split
        · subst_vars; simp [LaneState.unread, startOldestRead_unread]
        · rfl
      · simp [issueOp]
      · intro k hk
        rw [show (s.setLane l { s.lanes.get l with
            staging := (startOldestRead s.port.nextOp (s.lanes.get l).staging).2 }).lanes.get k = _ from
            State.lane_setLane _ l k _]
        split
        · subst_vars; exact ⟨rfl, rfl⟩
        · exact ⟨rfl, rfl⟩
      · intro k n e he hw
        rw [show (s.setLane l { s.lanes.get l with
            staging := (startOldestRead s.port.nextOp (s.lanes.get l).staging).2 }).lanes.get k = _ from
            State.lane_setLane _ l k _]
        split
        · subst_vars; exact startOldestRead_other _ _ _ _ he (by tauto)
        · exact he
  | completion =>
    have hw : s.completionRing.writing = none := by
      simp only [presents, RingWriter.ready, Bool.and_eq_true, Option.isNone_iff_eq_none] at hp
      exact hp.2
    simp only [issueTurn, issueCompletion]
    split
    · constructor <;> simp [State.lane]
      exact fun _ _ _ h _ => h
    · constructor <;> simp [State.lane, hw]
      · simp [issueOp]
      · exact fun _ _ _ h _ => h
  | capture =>
    have hw : s.captureRing.writing = none := by
      simp only [presents, RingWriter.ready, Bool.and_eq_true, Option.isNone_iff_eq_none] at hp
      exact hp.2
    simp only [issueTurn, issueCapture]
    split
    · constructor <;> simp [State.lane]
      exact fun _ _ _ h _ => h
    · constructor <;> simp [State.lane, hw]
      · simp [issueOp]
      · exact fun _ _ _ h _ => h

theorem turns_frame (n : Nat) (s : State) : PortFrame s (turns n s) := by
  induction n generalizing s with
  | zero => exact .refl s
  | succ n ih =>
    simp only [turns]
    split
    · exact .refl s
    · next r hr => exact (issueTurn_frame r s (List.find?_some hr)).trans (ih _)

/-- What the Host Port's turns of one event leave as it was. -/
theorem hostPort_frame (s : State) : PortFrame s (hostPort s) := turns_frame _ s

/-! ### The work of one event (R8, R29, R46, R50, R155) -/

theorem EventFrame.refl (s : State) : EventFrame s s := by
  constructor <;> simp

theorem EventFrame.trans {s t u : State} (h : EventFrame s t) (k : EventFrame t u) : EventFrame s u where
  pending := k.pending.trans h.pending
  timebase := k.timebase.trans h.timebase
  window := k.window.trans h.window
  store := k.store.trans h.store
  qualifier := k.qualifier.trans h.qualifier
  capture := k.capture.trans h.capture
  captureRing := k.captureRing.trans h.captureRing
  trips := k.trips.trans h.trips
  completionRing := k.completionRing.trans h.completionRing
  interrupt := k.interrupt.trans h.interrupt
  outside := k.outside.trans h.outside
  base l := (k.base l).trans (h.base l)
  entries l := (k.entries l).trans (h.entries l)
  consumer l := (k.consumer l).trans (h.consumer l)
  tail l := (k.tail l).trans (h.tail l)
  shadow l := (k.shadow l).trans (h.shadow l)
  run l := by
    rcases h.run l with h1 | ⟨h1, h2⟩ <;> rcases k.run l with k1 | ⟨k1, k2⟩
    · exact .inl (k1.trans h1)
    · exact .inr ⟨h1 ▸ k1, k2⟩
    · exact .inr ⟨h1, k1.trans h2⟩
    · rw [h2] at k1; cases k1
  posted := h.posted.trans k.posted

/-- The Host Port's turns are within the frame of an event. -/
theorem PortFrame.event {s t : State} (h : PortFrame s t) : EventFrame s t where
  pending := h.pending
  timebase := h.timebase
  window := h.window
  store := h.store
  qualifier := h.qualifier
  capture := h.capture
  captureRing := h.captureRing
  trips := h.trips
  completionRing := h.completionRing
  interrupt := h.interrupt
  outside := h.outside
  base l := show (t.lane l).unread.base = (s.lane l).unread.base by rw [h.lanes l]
  entries l := show (t.lane l).unread.entries = (s.lane l).unread.entries by rw [h.lanes l]
  consumer l := show (t.lane l).unread.consumer = (s.lane l).unread.consumer by rw [h.lanes l]
  tail l := show (t.lane l).unread.tail = (s.lane l).unread.tail by rw [h.lanes l]
  shadow l := show (t.lane l).unread.shadow = (s.lane l).unread.shadow by rw [h.lanes l]
  run l := .inl (show (t.lane l).unread.run = (s.lane l).unread.run by rw [h.lanes l])
  posted := by rw [h.post]

/-- A lane replaced by one with the same ring indexes, shadow pace and run state. -/
theorem setLane_frame (s : State) (l : LaneId) (x : LaneState)
    (hb : x.base = (s.lane l).base) (he : x.entries = (s.lane l).entries)
    (hc : x.consumer = (s.lane l).consumer) (ht : x.tail = (s.lane l).tail)
    (hs : x.shadow = (s.lane l).shadow)
    (hr : x.run = (s.lane l).run ∨ ((s.lane l).run = .tripped ∧ x.run = .run)) :
    EventFrame s (s.setLane l x) := by
  have key : ∀ {α : Type} (f : LaneState → α), f x = f (s.lane l) →
      ∀ k, f ((s.setLane l x).lane k) = f (s.lane k) := by
    intro α f h k
    rw [State.lane_setLane]; split
    · subst_vars; exact h
    · rfl
  constructor <;> first | exact key _ hb | exact key _ he | exact key _ hc | exact key _ ht | exact key _ hs | skip
  all_goals try rfl
  · intro k; rw [State.lane_setLane]; split
    · subst_vars; exact hr
    · exact .inl rfl

theorem setActive_frame (s : State) (l : LaneId) (a : Option Active) : EventFrame s (s.setActive l a) :=
  setLane_frame s l _ rfl rfl rfl rfl rfl (.inl rfl)

theorem setStaging_frame (s : State) (l : LaneId) (q : List Entry) : EventFrame s (s.setStaging l q) :=
  setLane_frame s l _ rfl rfl rfl rfl rfl (.inl rfl)

theorem freeBlocks_frame (bs : List Nat) (s : State) : EventFrame s (freeBlocks bs s) := by
  constructor <;> simp

theorem releaseLane_frame (l : LaneId) (s : State) : EventFrame s (releaseLane l s) := by
  constructor <;> simp

theorem holdLane_frame (l : LaneId) (s : State) : EventFrame s (holdLane l s) := by
  constructor <;> simp

theorem grantClaim_frame (l : LaneId) (d e : Pins) (s : State) : EventFrame s (grantClaim l d e s) := by
  constructor <;> simp

theorem setGroup_frame (g : GroupId) (x : Group) (s : State) : EventFrame s (s.setGroup g x) := by
  constructor <;> simp

theorem postRecord_frame (p : PostSource) (c : Completion) (s : State) : EventFrame s (postRecord p c s) := by
  constructor <;> simp [postRecord, State.lane]

theorem placeRequest_frame (l : LaneId) (s : State) : EventFrame s (placeRequest l s) := by
  simp only [placeRequest]
  split
  · exact .refl s
  · split
    · exact .refl s
    · constructor <;> simp [State.lane]

theorem grantHead_frame (r : AllocRequest) (rest : List AllocRequest) (s : State) :
    EventFrame s (grantHead r rest s) := by
  refine EventFrame.trans ?_ (placeRequest_frame _ _)
  refine EventFrame.trans (t := { s with alloc := { free := s.alloc.free.drop r.need, queue := rest } }) ?_
    (setStaging_frame _ _ _)
  constructor <;> simp [State.lane]

theorem allocRun_frame (n : Nat) (s : State) : EventFrame s (allocRun n s) := by
  induction n generalizing s with
  | zero => exact .refl s
  | succ n ih =>
    simp only [allocRun]
    split
    · exact .refl s
    · split
      · refine EventFrame.trans ?_ (ih _)
        constructor <;> simp [State.lane]
      · split
        · exact (grantHead_frame _ _ s).trans (ih _)
        · exact .refl s

theorem allocLook_frame (s : State) : EventFrame s (allocLook s) := allocRun_frame _ s

theorem retire_frame (l : LaneId) (a : Active) (st : Status) (s : State) : EventFrame s (retire l a st s).1 := by
  have h := (setActive_frame s l (some (a.retire st s.timebase))).trans (freeBlocks_frame a.blocks _)
  simp only [retire]
  split
  · split
    · exact h.trans (holdLane_frame l _)
    · exact h.trans (releaseLane_frame l _)
  · exact h

theorem setContext_frame (l : LaneId) (a : Active) (c : Context) (s : State) :
    EventFrame s (setContext l a c s) := setActive_frame s l _

theorem arriveAtGroup_frame (l : LaneId) (a : Active) (s : State) : EventFrame s (arriveAtGroup l a s).1 := by
  simp only [arriveAtGroup]
  split
  · exact (setGroup_frame _ _ s).trans (setContext_frame _ _ _ _)
  · exact retire_frame _ _ _ _

theorem claimGranted_frame (l : LaneId) (s : State) : EventFrame s (claimGranted l s).1 := by
  simp only [claimGranted]
  split
  · exact .refl s
  · split
    · split
      · exact arriveAtGroup_frame _ _ _
      · exact setContext_frame _ _ _ _
    · exact .refl s

theorem presentClaim_frame (l : LaneId) (a : Active) (s : State) : EventFrame s (presentClaim l a s).1 := by
  simp only [presentClaim]
  split
  · exact (grantClaim_frame _ _ _ s).trans (claimGranted_frame _ _)
  · split
    · constructor <;> simp [State.lane]
    · exact retire_frame _ _ _ _

theorem examinePass_frame (cs : List Claim) (s : State) : EventFrame s (examinePass cs s).1 := by
  induction cs generalizing s with
  | nil => simp only [examinePass]; constructor <;> simp [State.lane]
  | cons c cs ih =>
    simp only [examinePass]
    split
    · exact (grantClaim_frame _ _ _ s).trans (ih _)
    · refine (ih s).trans ?_
      constructor <;> simp [State.lane]

theorem examinePasses_frame (n : Nat) (s : State) : EventFrame s (examinePasses n s).1 := by
  induction n generalizing s with
  | zero => exact .refl s
  | succ n ih =>
    simp only [examinePasses]
    split
    · exact (examinePass_frame _ s).trans (ih _)
    · exact examinePass_frame _ s

theorem arrange_frame {α : Type} (xs : List α) (s : State) : EventFrame s (arrange xs s).2 := by
  simp only [arrange]
  split
  · exact .refl s
  · constructor <;> simp [State.lane]

theorem examine_frame (s : State) : EventFrame s (examine s).1 :=
  (examinePasses_frame _ s).trans (arrange_frame _ _)

theorem grantContext_frame (l : LaneId) (s : State) : EventFrame s (grantContext l s).1 := by
  simp only [grantContext]
  split
  · exact .refl s
  · split
    · refine EventFrame.trans ?_ (postRecord_frame _ _ _)
      exact setLane_frame s l _ rfl rfl rfl rfl rfl (.inl rfl)
    · exact .refl s

theorem grantRetune_frame (l : LaneId) (s : State) : EventFrame s (grantRetune l s).1 := by
  simp only [grantRetune]
  split
  · exact .refl s
  · refine EventFrame.trans ?_ (postRecord_frame _ _ _)
    exact setLane_frame s l _ rfl rfl rfl rfl rfl (.inl rfl)

theorem grantPort_frame (p : Port) (s : State) : EventFrame s (grantPort p s).1 := by
  cases p
  · exact grantContext_frame _ s
  · exact grantRetune_frame _ s

theorem askPort_frame (p : Port) (s : State) : EventFrame s (askPort p s).1 := by
  simp only [askPort]
  split
  · exact grantPort_frame p s
  · constructor <;> simp [State.lane]

theorem takeRetiring_frame (l : LaneId) (k : Byte) (r : Bytes 64) (st : Status) (late : Bool) (s : State) :
    EventFrame s (takeRetiring l k r st late s).1 := setActive_frame s l _

theorem takeEntry_frame (l : LaneId) (e : Entry) (s : State) : EventFrame s (takeEntry l e s).1 := by
  simp only [takeEntry]
  split
  · exact takeRetiring_frame ..
  split
  · exact (setActive_frame s l _).trans (presentClaim_frame _ _ _)
  split
  · simp only [takeMark]
    split
    · exact takeRetiring_frame ..
    split
    · exact takeRetiring_frame ..
    · exact setActive_frame s l _
  split
  · exact (releaseLane_frame l s).trans (takeRetiring_frame ..)
  · simp only [takeResume]
    split
    · next h =>
      split
      · exact takeRetiring_frame ..
      · refine EventFrame.trans ?_ (takeRetiring_frame ..)
        exact setLane_frame s l _ rfl rfl rfl rfl rfl (.inr ⟨h, rfl⟩)
    · exact takeRetiring_frame ..

theorem takeHead_frame (l : LaneId) (s : State) : EventFrame s (takeHead l s).1 := by
  simp only [takeHead]
  split
  · exact .refl s
  · split
    · refine EventFrame.trans ?_ (takeEntry_frame _ _ _)
      exact setLane_frame s l _ rfl rfl rfl rfl rfl (.inl rfl)
    · exact .refl s

theorem takeFront_frame (l : LaneId) (s : State) : EventFrame s (takeFront l s).1 := by
  simp only [takeFront]
  split
  · exact .refl s
  · split
    · exact takeHead_frame l s
    · split
      · exact takeRetiring_frame ..
      · exact takeHead_frame l s

theorem runTask_frame (x : Task) (s : State) : EventFrame s (runTask x s).1 := by
  cases x
  · exact allocLook_frame s
  · exact examine_frame s
  · exact claimGranted_frame _ s
  · exact askPort_frame _ s
  · exact takeFront_frame _ s

theorem runTasks_frame (n : Nat) (ts : List Task) (s : State) : EventFrame s (runTasks n ts s) := by
  induction n generalizing ts s with
  | zero => exact .refl s
  | succ n ih =>
    simp only [runTasks]
    split
    · exact .refl s
    · exact (runTask_frame _ s).trans (ih _ _)

/-- What the work of an event leaves as it was. -/
theorem settle_frame (e : Effect) : EventFrame e.1 (settle e) := runTasks_frame _ _ _

/-- What an event leaves as its own effect `e` left it. -/
theorem finish_frame (e : Effect) : EventFrame e.1 (hostPort (settle e)) :=
  (settle_frame e).trans (hostPort_frame _).event

end Sys2Proof.Machine
end

