-- ==== Sys2Proof/Laws/Ops.lean ====
section
/-! SUPPORT. What each shared operation does, said once: free orders, pin values, ports, retirement, withdrawal. -/

namespace Sys2Proof.Machine

/-! ### Free orders -/

theorem insertIdx_mod_perm {α : Type} (k : Nat) (x : α) (xs : List α) :
    (xs.insertIdx (k % (xs.length + 1)) x).Perm (x :: xs) :=
  List.perm_insertIdx x xs (Nat.le_of_lt_succ (Nat.mod_lt k (Nat.succ_pos xs.length)))

/-- A shuffled list has the same elements. -/
theorem shuffle_perm {α : Type} (f : Nat → Nat) (xs : List α) : (shuffle f xs).Perm xs := by
  induction xs with
  | nil => exact .refl _
  | cons x xs ih =>
    cases xs with
    | nil => exact .refl _
    | cons y ys =>
      simp only [shuffle]
      exact (insertIdx_mod_perm _ _ _).trans (List.Perm.cons x ih)

/-- A free order has the same elements, whatever the choice. -/
theorem arrange_perm {α : Type} (xs : List α) (s : State) : (arrange xs s).1.Perm xs := by
  simp only [arrange]
  split
  · exact .refl _
  · exact shuffle_perm _ _

/-- A free choice counts itself and changes nothing else. -/
theorem arrange_state {α : Type} (xs : List α) (s : State) :
    (arrange xs s).2 = s ∨ (arrange xs s).2 = { s with choices := s.choices + 1 } := by
  simp only [arrange]
  split
  · exact .inl rfl
  · exact .inr rfl

/-- A list of at most one element needs no choice. -/
theorem arrange_short {α : Type} {xs : List α} (h : xs.length ≤ 1) (s : State) : arrange xs s = (xs, s) := by
  simp [arrange, h]

/-! ### Pin values -/

theorem pinsBelow_bit (f : Nat → Bool) (k n : Nat) (hn : n < 48) :
    (pinsBelow f k).getLsbD n = (decide (n < k) && f n) := by
  induction k with
  | zero => simp [pinsBelow]
  | succ k ih =>
    simp only [pinsBelow, BitVec.getLsbD_or, ih]
    by_cases hk : f k = true
    · simp only [hk, if_true, BitVec.getLsbD_twoPow]
      by_cases h : k = n
      · subst h; simp [hn, hk]
      · simp [h]
        have : (n < k ↔ n < k + 1) := by omega
        simp [this]
    · simp only [hk]
      by_cases h : k = n
      · subst h; simp [hk]
      · have : (n < k ↔ n < k + 1) := by omega
        simp [this]

/-- Bit `n` of the pin value of `f`. -/
theorem pinBit_pinsWhere (f : Nat → Bool) {n : Nat} (hn : n < 48) : pinBit (pinsWhere f) n = f n := by
  rw [pinBit, pinsWhere, pinsBelow_bit f 48 n hn]
  simp [hn]

/-- The entry of a pin below 48 is the table's. -/
theorem State.pin_eq (s : State) (n : PinId) : s.pin n.val = s.pins.get n := by
  simp [State.pin, Vector.get_eq_getElem]

/-! ### Ports (R155) -/

/-- A request is granted in its own event, or it joins the back of the waiting list. -/
theorem askPort_cases (p : Port) (s : State) :
    (generalInUse s.post < 14 ∧ s.post.waiting = [] ∧ askPort p s = grantPort p s)
      ∨ askPort p s = ({ s with post := { s.post with waiting := s.post.waiting ++ [p] } }, []) := by
  by_cases h : generalInUse s.post < Config.generalEntries ∧ s.post.waiting = []
  · exact .inl ⟨h.1, h.2, by simp only [askPort, if_pos h]⟩
  · exact .inr (by simp only [askPort, if_neg h])

/-! ### The work of an event (R27, R50, R54) -/

/-- The next piece of work: the first that does not wait; else one examination for all that were called for; else
one look of the allocator; else none. -/
theorem nextTask_cases (ts : List Task) :
    (∃ pre t post, ts = pre ++ t :: post ∧ (∀ x ∈ pre, x.waits = true) ∧ t.waits = false
        ∧ nextTask ts = some (t, pre ++ post))
      ∨ ((∀ x ∈ ts, x.waits = true) ∧ .examine ∈ ts
        ∧ nextTask ts = some (.examine, ts.filter fun t => t != .examine))
      ∨ ((∀ x ∈ ts, x = .look) ∧ ts ≠ [] ∧ nextTask ts = some (.look, []))
      ∨ (ts = [] ∧ nextTask ts = none) := by
  cases h : ts.find? fun t => !t.waits with
  | some t =>
    left
    obtain ⟨ht, pre, post, rfl, hpre⟩ := List.find?_eq_some_iff_append.1 h
    have hw : t.waits = false := by simpa using ht
    have hp : ∀ x ∈ pre, x.waits = true := fun x hx => by simpa using hpre x hx
    refine ⟨pre, t, post, rfl, hp, hw, ?_⟩
    have hn : t ∉ pre := fun hm => by simp [hp t hm] at hw
    simp only [nextTask, h]
    rw [List.erase_append_right _ hn, List.erase_cons_head]
  | none =>
    right
    have hw : ∀ x ∈ ts, x.waits = true := fun x hx => by simpa using List.find?_eq_none.1 h x hx
    by_cases he : Task.examine ∈ ts
    · exact .inl ⟨hw, he, by simp [nextTask, h, he]⟩
    · right
      have hl : ∀ x ∈ ts, x = .look := fun x hx => by
        have hx' := hw x hx
        cases x with
        | look => rfl
        | examine => exact absurd hx he
        | _ => cases hx'
      cases ts with
      | nil => exact .inr ⟨rfl, rfl⟩
      | cons x xs => exact .inl ⟨hl, by simp, by simp [nextTask, h, he]⟩

/-- No work leaves the state as it is. -/
@[simp] theorem settle_nil (s : State) : settle (s, []) = s := by
  simp only [settle]
  generalize workBound s [] = n
  cases n <;> rfl

/-! ### Retirement (R16) -/

/-- Retirement gives the lane its RETIRING entry and leaves every other lane alone. -/
theorem retire_lane (l k : LaneId) (a : Active) (st : Status) (s : State) :
    (retire l a st s).1.lane k =
      if l = k then { s.lane l with active := some (a.retire st s.timebase) } else s.lane k := by
  simp only [retire]
  split
  · split <;> simp
  · simp

/-- Retirement appends the entry's blocks at the back of the free list (R27). -/
theorem retire_alloc (l : LaneId) (a : Active) (st : Status) (s : State) :
    (retire l a st s).1.alloc = { s.alloc with free := s.alloc.free ++ a.blocks } := by
  simp only [retire]
  split
  · split <;> simp [freeBlocks, State.setLane]
  · simp [freeBlocks, State.setLane]

/-- Retirement asks for the context port, whatever else follows. -/
theorem retire_asks (l : LaneId) (a : Active) (st : Status) (s : State) :
    Task.ask (.context l) ∈ (retire l a st s).2 := by
  simp only [retire]
  split
  · split <;> simp
  · simp

/-! ### Shadow pace and retune outbox (R21, R22) -/

/-- A completion pushed to a lane's outbox changes nothing else of the lanes. -/
theorem pushOutbox_lane (l k : LaneId) (c : Completion) (s : State) :
    (pushOutbox l c s).1.lane k =
      if l = k then { s.lane l with outbox := (s.lane l).outbox ++ [c] } else s.lane k := by
  simp [pushOutbox]

/-- The shadow of the lane is resolved into its outbox; without a shadow nothing happens. -/
theorem resolveShadow_lane (l k : LaneId) (st : Status) (s : State) :
    (resolveShadow l st s).1.lane k =
      if l = k then
        match (s.lane l).shadow with
        | none => s.lane l
        | some sh => { s.lane l with
            shadow := none
            outbox := (s.lane l).outbox ++ [retuneCompletion l sh.tag sh.arrival s.timebase st] }
      else s.lane k := by
  simp only [resolveShadow]
  cases h : (s.lane l).shadow with
  | none => by_cases hk : l = k <;> simp [hk]
  | some sh => by_cases hk : l = k <;> simp [hk, pushOutbox_lane]

/-! ### Withdrawal (section 1.6) -/

/-- The withdrawal of the active entry leaves every other lane alone. -/
theorem withdrawActive_lane_ne {l k : LaneId} (h : l ≠ k) (w : Status) (s : State) :
    (withdrawActive l w s).1.lane k = s.lane k := by
  simp only [withdrawActive]
  split
  · rfl
  · split
    · rfl
    · simp [h]

/-- After the withdrawal of the active entry the context is empty or RETIRING (R18). -/
theorem withdrawActive_retiring (l : LaneId) (w : Status) (s : State) :
    ∀ a, ((withdrawActive l w s).1.lane l).active = some a → ∃ st t, a.context = .retiring st t := by
  intro a
  simp only [withdrawActive]
  split
  · next h => simp [h]
  · next b h =>
    split
    · next st t hc => intro h'; rw [h] at h'; cases h'; exact ⟨st, t, hc⟩
    · simp only [freeBlocks_lane, State.setActive_eq, State.lane_setLane, if_true, Option.some.injEq]
      rintro rfl
      exact ⟨w, s.timebase, rfl⟩

/-- A withdrawal leaves every other lane alone. -/
theorem withdrawLane_lane_ne {l k : LaneId} (h : l ≠ k) (w : Status) (s : State) :
    (withdrawLane l w s).1.lane k = s.lane k := by
  simp only [withdrawLane, releaseLane_lane]
  rw [resolveShadow_lane, if_neg h]
  simp [withdrawStaging, h, withdrawActive_lane_ne h]

/-- A withdrawn lane owns no pin (R54). -/
theorem releaseLane_owner (l : LaneId) (s : State) (n : PinId) : ((releaseLane l s).pins.get n).owner ≠ some l := by
  simp only [releaseLane, mapTable_get]
  split
  · simp [PinEntry.release]
  · assumption

end Sys2Proof.Machine
end

