-- ==== Sys2Proof/Laws/Look.lean ====
section
/-! SUPPORT. The tick's one look: when it is taken, what a look does to the qualifier, what a tick leaves
(R113 to R116). -/

namespace Sys2Proof.Machine

/-- A look may be taken exactly when the levels stand and the tick has no look yet, or a sample is due. -/
theorem lookReady_iff (s : State) :
    lookReady s = true ↔ (s.qualifier.looked = false ∨ sampleDue s = true) ∧ levelsStand s = true := by
  simp [lookReady]

/-- While a command waits, no look is taken. -/
theorem lookReady_of_waiting {s : State} (h : s.pending ≠ []) : lookReady s = false := by
  simp [lookReady, levelsStand, h]

/-- When no command waits and no timed event of the tick is left, the levels stand. -/
theorem levelsStand_of_last {s : State} (h : s.pending = []) (ht : timedEvents s = []) : levelsStand s = true := by
  simp [levelsStand, h, ht]

/-- Off the sample grid a tick that has had its look takes no other. -/
theorem lookReady_of_looked {s : State} (h : s.qualifier.looked = true) (hs : sampleDue s = false) :
    lookReady s = false := by
  simp [lookReady, h, hs]

/-- A look is taken whole, or nothing happens. -/
theorem takeLook_cases (s : State) :
    (lookReady s = true ∧ takeLook s = qualifierLook s) ∨ (lookReady s = false ∧ takeLook s = (s, [])) := by
  cases h : lookReady s <;> simp [takeLook, h]

/-- The command of a timed event has the event's meaning. -/
@[simp] theorem exec_timedCommand (e : TimedEvent) (s : State) : exec (timedCommand e) s = runTimed e s := by
  cases e <;> rfl

/-- A pick from a list is one of its elements, and a list with elements has one. -/
theorem pickOne_mem {α : Type} (xs : List α) (n : Nat) : (xs = [] ∧ pickOne xs n = none) ∨ ∃ x ∈ xs, pickOne xs n = some x := by
  cases xs with
  | nil => exact .inl ⟨rfl, rfl⟩
  | cons x xs =>
    right
    by_cases h : (x :: xs).length ≤ 1
    · exact ⟨x, by simp, by simp only [pickOne, h, if_true, List.head?_cons]⟩
    · have hlt : Config.pick n 0 % (x :: xs).length < (x :: xs).length := Nat.mod_lt _ (by simp)
      exact ⟨_, List.getElem_mem hlt, by simp only [pickOne, h, if_false, List.getElem?_eq_getElem hlt]⟩

/-- A choice answers one of the events of the state it answers, or none when there is none; at most it counts
itself. -/
theorem chooseEvent_cases {α : Type} (events : State → List α) (s : State) :
    ∃ n, (chooseEvent events s).2 = { s with choices := n }
      ∧ ((events { s with choices := n } = [] ∧ (chooseEvent events s).1 = none)
        ∨ ∃ e ∈ events { s with choices := n }, (chooseEvent events s).1 = some e) := by
  by_cases h : (timedEvents s).isEmpty = true
  · refine ⟨s.choices, by simp [chooseEvent, h], ?_⟩
    cases hs : events s with
    | nil => exact .inl ⟨rfl, by simp [chooseEvent, h, hs]⟩
    | cons e es => exact .inr ⟨e, by simp, by simp [chooseEvent, h, hs]⟩
  · refine ⟨s.choices + 1, by simp [chooseEvent, h], ?_⟩
    simpa only [chooseEvent, h, Bool.false_eq_true, if_false] using
      pickOne_mem (events { s with choices := s.choices + 1 }) s.choices

@[simp] theorem restOfTick_zero (s : State) : restOfTick 0 s = s := rfl

/-- With no timed event left, nothing is left of the tick. -/
theorem restOfTick_last {s : State} (h : timedEvents s = []) (n : Nat) : restOfTick n s = s := by
  cases n <;> simp [restOfTick, chooseEvent, h]

@[simp] theorem lookQualifier_looked (s : State) : (lookQualifier s).looked = true := rfl
@[simp] theorem lookQualifier_pins (s : State) : (lookQualifier s).pins = lookPins (sampleDue s) s := rfl
@[simp] theorem lookQualifier_interval (s : State) : (lookQualifier s).interval = s.qualifier.interval := rfl

/-- A look at a grid tick moves the grid on by the interval, any other look leaves it. -/
theorem lookQualifier_nextSample (s : State) :
    (lookQualifier s).nextSample = if sampleDue s then s.qualifier.nextSample + s.qualifier.interval.setWidth 48
      else s.qualifier.nextSample := rfl

/-! ### Moved pins and their own changes (R119) -/

/-- A release sets the safe level and notes the output it moved. -/
theorem PinEntry.release_eq (p : PinEntry) : p.release = { p with
    owner := none, role := none, held := false, output := p.safe
    earlier := if p.safe = p.output then p.earlier else some (p.earlier.getD p.output) } := rfl

/-- A pin without a note has its raw level as its own. -/
theorem ownLevel_of_no_note {s : State} {n : Nat} (h : (s.pin n).earlier = none) : ownLevel s n = rawLevel s n := by
  simp [ownLevel, rawLevel, h]

/-- What a look makes of one pin: a change of its own is taken, else the level as it stands is read. -/
theorem lookPins_get (sampling : Bool) (s : State) (n : PinId) :
    (lookPins sampling s).get n =
      if ((s.qualifier.pins.get n).look (s.pin n).qualifierCount sampling (ownLevel s n)).level
          ≠ (s.qualifier.pins.get n).level then
        (s.qualifier.pins.get n).look (s.pin n).qualifierCount sampling (ownLevel s n)
      else (s.qualifier.pins.get n).look (s.pin n).qualifierCount sampling (rawLevel s n) := by
  simp [lookPins, mapTable_get]

@[simp] theorem clearNotes_pin (s : State) (n : PinId) :
    (clearNotes s).pin n = { s.pin n with earlier := none } := by
  simp [State.pin_eq, clearNotes]

/-- Without a note to see, no own level differs from the raw one. -/
@[simp] theorem ownLevel_clearNotes (s : State) (n : PinId) : ownLevel (clearNotes s) n = rawLevel (clearNotes s) n :=
  ownLevel_of_no_note (by simp)

/-- A tick moves the timebase, opens the next tick's look and clears the notes of moved pins that have no change of
their own waiting, and nothing else. -/
theorem tick_eq (s : State) :
    tick s = { s with
      timebase := s.timebase + 1
      pins := mapTable (fun n p => { p with earlier := if ownChange s n then p.earlier else none }) s.pins
      qualifier := { s.qualifier with looked := false } } := rfl

/-- The tick's look is the part's own RAW_LEVEL_CHANGE only off the grid, QUALIFIER_SAMPLE only on it. -/
theorem look_exclusive (s : State) : ¬ (sampleReady s = true ∧ levelLookDue s = true) := by
  simp only [sampleReady, levelLookDue, Bool.and_eq_true, Bool.not_eq_true']
  rintro ⟨⟨⟨-, h⟩, -⟩, ⟨⟨-, h'⟩, -⟩, -⟩
  rw [h] at h'
  cases h'

end Sys2Proof.Machine
end

