-- ==== Sys2Proof/Laws/Memory.lean ====
section
/-! SUPPORT. The Vector Store: every operation on it keeps its canonical form, and a byte reads as last written
(R23, R34). -/

namespace Sys2Proof.Machine

/-- Every address of the list is at least `low`. -/
theorem storeWfFrom_weaken {a b : Nat} {m : List Host.Cell} (hab : a ≤ b) (h : storeWfFrom (some b) m = true) :
    storeWfFrom (some a) m = true := by
  cases m with
  | nil => rfl
  | cons c m =>
    simp only [storeWfFrom, Bool.and_eq_true, decide_eq_true_eq] at h ⊢
    exact ⟨⟨by omega, h.1.2⟩, h.2⟩

theorem storeWfFrom_none {a : Nat} {m : List Host.Cell} (h : storeWfFrom (some a) m = true) :
    storeWfFrom none m = true := by
  cases m with
  | nil => rfl
  | cons c m =>
    simp only [storeWfFrom, Bool.and_eq_true] at h ⊢
    exact ⟨⟨trivial, h.1.2⟩, h.2⟩

/-- An address at or below every listed one reads as unwritten. -/
theorem storeRead_below {a b : Nat} {m : List Host.Cell} (h : storeWfFrom (some b) m = true) (hab : a ≤ b) :
    storeRead m a = storeUnwritten := by
  induction m generalizing b with
  | nil => rfl
  | cons c m ih =>
    simp only [storeWfFrom, Bool.and_eq_true, decide_eq_true_eq] at h
    simp only [storeRead]
    rw [if_neg (by omega)]
    exact ih h.2 (by omega)

/-- A write above `low` keeps the canonical form above `low`. -/
theorem storeWrite_wfFrom {low : Option Nat} {m : List Host.Cell} (a : Nat) (v : Byte)
    (hlow : ∀ b, low = some b → b < a) (h : storeWfFrom low m = true) :
    storeWfFrom low (storeWrite m a v) = true := by
  induction m generalizing low with
  | nil =>
    simp only [storeWrite]
    split
    · rfl
    · next hv =>
      cases low with
      | none => simp [storeWfFrom, hv]
      | some b => simp [storeWfFrom, hv, hlow b rfl]
  | cons c m ih =>
    simp only [storeWfFrom, Bool.and_eq_true] at h
    simp only [storeWrite]
    split
    · next hac =>
      split
      · simp only [storeWfFrom, Bool.and_eq_true]; exact h
      · next hv =>
        cases low with
        | none => simp [storeWfFrom, hv, hac, h.2]; simpa using h.1
        | some b => simp [storeWfFrom, hv, hac, h.2, hlow b rfl]; simpa using h.1.2
    split
    · next hac =>
      subst hac
      split
      · cases low with
        | none => exact storeWfFrom_none h.2
        | some b => exact storeWfFrom_weaken (by have := hlow b rfl; omega) h.2
      · next hv =>
        simp only [storeWfFrom, Bool.and_eq_true]
        exact ⟨⟨h.1.1, by simpa using hv⟩, h.2⟩
    · simp only [storeWfFrom, Bool.and_eq_true]
      exact ⟨h.1, ih (fun b hb => by cases hb; omega) h.2⟩

/-- A write keeps the canonical form. -/
theorem storeWrite_wf {m : List Host.Cell} (a : Nat) (v : Byte) (h : storeWf m = true) :
    storeWf (storeWrite m a v) = true := storeWrite_wfFrom a v (by simp) h

/-- Writes of several bytes keep the canonical form. -/
theorem storeWriteBytes_wf {m : List Host.Cell} (a : Nat) (bs : List Byte) (h : storeWf m = true) :
    storeWf (storeWriteBytes m a bs) = true := by
  induction bs generalizing m a with
  | nil => exact h
  | cons b bs ih => exact ih _ (storeWrite_wf a b h)

/-- An accepted load read keeps the canonical form. -/
theorem storeLoad_wf {m : List Host.Cell} (e : Entry) (d : Bytes 256) (h : storeWf m = true) :
    storeWf (storeLoad e d m) = true := by
  simp only [storeLoad]
  split
  · exact h
  · exact storeWriteBytes_wf _ _ h

/-- The store after reset is in its canonical form. -/
theorem reset_store_wf : storeWf State.reset.store = true := rfl

theorem storeRead_storeWrite_from {low : Option Nat} {m : List Host.Cell} (a : Nat) (v : Byte) (x : Nat)
    (h : storeWfFrom low m = true) : storeRead (storeWrite m a v) x = if x = a then v else storeRead m x := by
  induction m generalizing low with
  | nil =>
    simp only [storeWrite]
    split
    · next hv => split <;> simp [storeRead, hv]
    · simp only [storeRead]
      by_cases hx : x = a
      · simp [hx]
      · simp [hx, Ne.symm hx]
  | cons c m ih =>
    simp only [storeWfFrom, Bool.and_eq_true] at h
    simp only [storeWrite]
    split
    · next hac =>
      have hbelow : storeRead (c :: m) a = storeUnwritten := by
        simp only [storeRead]
        rw [if_neg (by omega)]
        exact storeRead_below h.2 (by omega)
      split
      · next hv =>
        by_cases hx : x = a
        · subst hx; simp [hbelow, hv]
        · simp [hx]
      · by_cases hx : x = a
        · simp [hx, storeRead]
        · simp [hx, storeRead, Ne.symm hx]
    split
    · next hac =>
      subst hac
      split
      · next hv =>
        by_cases hx : x = c.1
        · subst hx; simp [storeRead_below h.2 (Nat.le_refl _), hv]
        · simp [storeRead, hx, Ne.symm hx]
      · by_cases hx : x = c.1
        · simp [hx, storeRead]
        · simp [storeRead, hx, Ne.symm hx]
    · next h1 h2 =>
      simp only [storeRead]
      by_cases hx : c.1 = x
      · simp only [hx, if_true]; rw [if_neg (by omega)]
      · simp only [hx, if_false]; exact ih h.2

/-- A byte reads as last written. -/
theorem storeRead_storeWrite {m : List Host.Cell} (a : Nat) (v : Byte) (x : Nat) (h : storeWf m = true) :
    storeRead (storeWrite m a v) x = if x = a then v else storeRead m x := storeRead_storeWrite_from a v x h

/-- After writes of several bytes, each address reads its byte, and every other address as before. -/
theorem storeRead_storeWriteBytes {m : List Host.Cell} (a : Nat) (bs : List Byte) (x : Nat) (h : storeWf m = true) :
    storeRead (storeWriteBytes m a bs) x =
      if a ≤ x ∧ x < a + bs.length then bs.getD (x - a) storeUnwritten else storeRead m x := by
  induction bs generalizing m a with
  | nil => simp only [storeWriteBytes, List.length_nil]; rw [if_neg (by omega)]
  | cons b bs ih =>
    simp only [storeWriteBytes, List.length_cons]
    rw [ih _ (storeWrite_wf a b h), storeRead_storeWrite a b x h]
    by_cases hx : x = a
    · subst hx; rw [if_neg (by omega), if_pos rfl, if_pos (by omega)]; simp
    · by_cases hr : a + 1 ≤ x ∧ x < a + 1 + bs.length
      · rw [if_pos hr, if_pos (by omega)]
        obtain ⟨k, hk⟩ : ∃ k, x - a = k + 1 := ⟨x - a - 1, by omega⟩
        rw [show x - (a + 1) = k by omega, hk]; simp
      · rw [if_neg hr, if_neg hx, if_neg (by omega)]

end Sys2Proof.Machine
end

