-- ==== Sys2Proof/Laws/PerInstr.lean ====
section
/-! SUPPORT. The family of per-command lemmas `WellFormedOperands`: which operands make a command of its row,
one lemma a constructor. -/

namespace Sys2Proof.Laws

/-- A term is well formed exactly when its operands lie in the range its row gives: an unknown command's code
is 0 or 6 to 255 (R168), an idle register write misses a byte enable or goes to IDENT or offset 1Ch (R184),
and every other row takes all operands its types hold. -/
def WellFormedOperands.Statement (i : Instr) : Prop :=
  i.wellFormed = true ↔
    (∀ code, i = .unknownCommand code → code = 0 ∨ 6 ≤ code.toNat)
      ∧ ∀ reg byteEnables value, i = .registerWrite reg byteEnables value →
          byteEnables ≠ 0xF#4 ∨ reg = .ident ∨ reg = .unused

/-- Every term meets the statement: the case split is made once, here, and each constructor's lemma cites it. -/
theorem wellFormedOperands_all (i : Instr) : WellFormedOperands.Statement i := by
  cases i with
  | unknownCommand code => simp [WellFormedOperands.Statement, Instr.wellFormed, unknownCode, BitVec.ule]
  | registerWrite reg byteEnables value =>
    simp [WellFormedOperands.Statement, Instr.wellFormed, idleWrite, or_assoc]
  | _ => simp [WellFormedOperands.Statement, Instr.wellFormed]

theorem WellFormedOperands.enable :
    WellFormedOperands.Statement .enable :=
  wellFormedOperands_all _

theorem WellFormedOperands.disable :
    WellFormedOperands.Statement .disable :=
  wellFormedOperands_all _

theorem WellFormedOperands.reset :
    WellFormedOperands.Statement .reset :=
  wellFormedOperands_all _

theorem WellFormedOperands.abort (mask : LaneMask) :
    WellFormedOperands.Statement (.abort mask) :=
  wellFormedOperands_all _

theorem WellFormedOperands.start (mask : LaneMask) :
    WellFormedOperands.Statement (.start mask) :=
  wellFormedOperands_all _

theorem WellFormedOperands.unknownCommand (code : Byte) :
    WellFormedOperands.Statement (.unknownCommand code) :=
  wellFormedOperands_all _

theorem WellFormedOperands.submit (lane : LaneId) (tail : BitVec 12) :
    WellFormedOperands.Statement (.submit lane tail) :=
  wellFormedOperands_all _

theorem WellFormedOperands.acknowledgeCompletion (head : BitVec 12) :
    WellFormedOperands.Statement (.acknowledgeCompletion head) :=
  wellFormedOperands_all _

theorem WellFormedOperands.acknowledgeCapture (head : BitVec 12) :
    WellFormedOperands.Statement (.acknowledgeCapture head) :=
  wellFormedOperands_all _

theorem WellFormedOperands.statusWrite (value : Word) :
    WellFormedOperands.Statement (.statusWrite value) :=
  wellFormedOperands_all _

theorem WellFormedOperands.setupLoWrite (value : Word) :
    WellFormedOperands.Statement (.setupLoWrite value) :=
  wellFormedOperands_all _

theorem WellFormedOperands.setupHiWrite (value : Word) :
    WellFormedOperands.Statement (.setupHiWrite value) :=
  wellFormedOperands_all _

theorem WellFormedOperands.registerWrite (reg : Reg) (byteEnables : BitVec 4) (value : Word) :
    WellFormedOperands.Statement (.registerWrite reg byteEnables value) :=
  wellFormedOperands_all _

theorem WellFormedOperands.powerOn :
    WellFormedOperands.Statement .powerOn :=
  wellFormedOperands_all _

theorem WellFormedOperands.resetPin :
    WellFormedOperands.Statement .resetPin :=
  wellFormedOperands_all _

theorem WellFormedOperands.rawLevelChange (level hold : Pins) :
    WellFormedOperands.Statement (.rawLevelChange level hold) :=
  wellFormedOperands_all _

theorem WellFormedOperands.qualifierSample :
    WellFormedOperands.Statement .qualifierSample :=
  wellFormedOperands_all _

theorem WellFormedOperands.setupReadReturn (reply : ReadReply 256) :
    WellFormedOperands.Statement (.setupReadReturn reply) :=
  wellFormedOperands_all _

theorem WellFormedOperands.hostPortTurn :
    WellFormedOperands.Statement .hostPortTurn :=
  wellFormedOperands_all _

theorem WellFormedOperands.recordArrival (lane : LaneId) (record : Bytes 64) :
    WellFormedOperands.Statement (.recordArrival lane record) :=
  wellFormedOperands_all _

theorem WellFormedOperands.fetchBusError (lane : LaneId) :
    WellFormedOperands.Statement (.fetchBusError lane) :=
  wellFormedOperands_all _

theorem WellFormedOperands.discardedFetchReturn (lane : LaneId) :
    WellFormedOperands.Statement (.discardedFetchReturn lane) :=
  wellFormedOperands_all _

theorem WellFormedOperands.loadReadReturn (lane : LaneId) (place : Fin 4) (data : Bytes 256) :
    WellFormedOperands.Statement (.loadReadReturn lane place data) :=
  wellFormedOperands_all _

theorem WellFormedOperands.loadFault (lane : LaneId) (place : Fin 4) :
    WellFormedOperands.Statement (.loadFault lane place) :=
  wellFormedOperands_all _

theorem WellFormedOperands.withdrawnLoadReturn (lane : LaneId) (place : Fin 4) :
    WellFormedOperands.Statement (.withdrawnLoadReturn lane place) :=
  wellFormedOperands_all _

theorem WellFormedOperands.staleReturn (op : OpId) :
    WellFormedOperands.Statement (.staleReturn op) :=
  wellFormedOperands_all _

theorem WellFormedOperands.completionWriteDone :
    WellFormedOperands.Statement .completionWriteDone :=
  wellFormedOperands_all _

theorem WellFormedOperands.completionWriteError :
    WellFormedOperands.Statement .completionWriteError :=
  wellFormedOperands_all _

theorem WellFormedOperands.captureWriteDone :
    WellFormedOperands.Statement .captureWriteDone :=
  wellFormedOperands_all _

theorem WellFormedOperands.captureWriteError :
    WellFormedOperands.Statement .captureWriteError :=
  wellFormedOperands_all _

theorem WellFormedOperands.claimTimeout (lane : LaneId) :
    WellFormedOperands.Statement (.claimTimeout lane) :=
  wellFormedOperands_all _

theorem WellFormedOperands.groupDeadline (group : GroupId) :
    WellFormedOperands.Statement (.groupDeadline group) :=
  wellFormedOperands_all _

theorem WellFormedOperands.groupStartTick (group : GroupId) :
    WellFormedOperands.Statement (.groupStartTick group) :=
  wellFormedOperands_all _

theorem WellFormedOperands.markDue (lane : LaneId) :
    WellFormedOperands.Statement (.markDue lane) :=
  wellFormedOperands_all _

theorem WellFormedOperands.burstStart (lane : LaneId) :
    WellFormedOperands.Statement (.burstStart lane) :=
  wellFormedOperands_all _

theorem WellFormedOperands.strobe (lane : LaneId) :
    WellFormedOperands.Statement (.strobe lane) :=
  wellFormedOperands_all _

theorem WellFormedOperands.periodEnd (lane : LaneId) :
    WellFormedOperands.Statement (.periodEnd lane) :=
  wellFormedOperands_all _

theorem WellFormedOperands.holdoffExpiry (ring : Ring) :
    WellFormedOperands.Statement (.holdoffExpiry ring) :=
  wellFormedOperands_all _

end Sys2Proof.Laws
end

