-- ==== Sys2Proof/Tests/Slice0.lean ====
section
/-! SUPPORT. Small tests: terms the well-formedness checks refuse, words that spell commands, one step of each
command on a small state (expected results from the spec's worked examples and rules, named at each test),
and for every obligation with hypotheses a witness that meets them.

The tests are elaborated one after another (`Elab.async`): side by side, each waits in a thread of its own, and
the stacks of the threads together come near the memory limit of the check. -/

namespace Sys2Proof.Tests

open Sys2Proof Sys2Proof.Machine

set_option Elab.async false

/-! ### Well-formedness -/

theorem test_command_codes_are_no_unknown_code :
    ∀ c ∈ ([1, 2, 3, 4, 5] : List Byte), (Instr.unknownCommand c).wellFormed = false := by decide

theorem test_other_codes_are_unknown :
    ∀ c ∈ ([0, 6, 255] : List Byte), (Instr.unknownCommand c).wellFormed = true := by decide

theorem test_full_writes_to_answering_registers_are_no_idle_write :
    ∀ r ∈ [Reg.control, .status, .setupLo, .setupHi, .submit, .acknowledge],
      (Instr.registerWrite r 0xF 0).wellFormed = false := by decide

theorem test_idle_writes_are_well_formed :
    (Instr.registerWrite .ident 0xF 1).wellFormed = true ∧ (Instr.registerWrite .unused 0xF 1).wellFormed = true
      ∧ (Instr.registerWrite .control 0x7 1).wellFormed = true := by decide

theorem test_ill_formed_terms_are_refused :
    exec (.unknownCommand 3) State.reset = .refused .illFormed
      ∧ exec (.registerWrite .status 0xF 0) State.reset = .refused .illFormed := ⟨rfl, rfl⟩

/-! ### Words (R166, R168, R183; the offsets and bits are written out from the layouts of 12.6) -/

theorem test_no_row_has_bits : decodeTableWord 32 1 = none := rfl

theorem test_control_words :
    decodeWrite .control 0xF 0x00000001 = .enable ∧ decodeWrite .control 0xF 0xFFFFFF02 = .disable
      ∧ decodeWrite .control 0xF 0x00000003 = .reset
      ∧ decodeWrite .control 0xF 0b0101_00000100 = .abort 0b0101
      ∧ decodeWrite .control 0xF 0b1000_00000101 = .start 0b1000
      ∧ decodeWrite .control 0xF 0x00000F06 = .unknownCommand 6 := by decide

theorem test_submit_and_acknowledge_words :
    decodeWrite .submit 0xF 0b10_000000000000000000_000000001011 = .submit 2 11
      ∧ decodeWrite .acknowledge 0xF 0x0000000A = .acknowledgeCompletion 10
      ∧ decodeWrite .acknowledge 0xF 0x80000007 = .acknowledgeCapture 7 := by decide

theorem test_partial_writes_are_idle :
    decodeWrite .submit 0xE 5 = .registerWrite .submit 0xE 5
      ∧ decodeWrite .ident 0xF 5 = .registerWrite .ident 0xF 5 := by decide

/-- 12.6: the words of the window by offset. -/
theorem test_window_offsets :
    [0x00, 0x04, 0x08, 0x0C, 0x10, 0x14, 0x18, 0x1C, 0x02, 0x20].map regAt =
      [some .ident, some .control, some .status, some .setupLo, some .setupHi, some .submit, some .acknowledge,
        some .unused, none, none]
      ∧ readAt State.reset 0x00 = some 0x5212C401 ∧ writeAt 0x14 0xF 0x8000000B = some (.submit 2 11) := by decide

/-! ### Small states -/

/-- `n` bytes from a list, filled up with zeros. -/
def bytesOf (n : Nat) (l : List Byte) : Bytes n := ⟨⟨(l ++ List.replicate n 0).take n⟩, by simp⟩

/-- The state an outcome answers, if it answers one. -/
def after (o : Host.Outcome State Fault Refusal) : Option State :=
  match o with
  | .next t => some t
  | _ => none

/-- The device ON, every lane RUN, rings of 16 entries, nothing to do; the sample grid is far away. -/
def ready : State :=
  { State.reset with
    window := { Window.reset with device := .on }
    lanes := Vector.replicate 4 { LaneState.reset with run := .run }
    qualifier := { State.reset.qualifier with interval := 60000, nextSample := 0xFFFFFFFF }
    timebase := 1000 }

/-- A BURST: N = `n`, window `first` to `last`, P = `passes`, pace I = `i`, F = `f`, strobe offset `strobe`. -/
def burstRecord (flags start loop : Byte) (group member waitLimit strobe gate : Nat) (drive sense care : Nat)
    (n first last passes i f : Nat) : Bytes 64 :=
  bytesOf 64 ([1, flags, start, loop] ++ leBytes 4 0x1234 ++ leBytes 8 0 ++ leBytes 6 9000 ++ leBytes 1 group
    ++ leBytes 1 member ++ leBytes 4 waitLimit ++ leBytes 2 strobe ++ leBytes 2 gate ++ leBytes 6 drive
    ++ leBytes 6 sense ++ leBytes 6 care ++ leBytes 2 n ++ leBytes 2 first ++ leBytes 2 last
    ++ leBytes 2 passes ++ leBytes 2 i ++ leBytes 1 f)

/-- A plain BURST of one vector on V0 to V3, pace 10, strobe offset 3. -/
def plainBurst : Bytes 64 := burstRecord 0 0 0 0 0 0 3 0 0xF 0 0 1 0 0 0 10 0

/-- The burst of 5.9: four vectors, I = 10, S = 3, G = 5, sense and care V8 to V11. -/
def exampleBurst : Bytes 64 := burstRecord 0 0 0 0 0 0 3 5 0x1 0xF00 0xF00 4 0 0 0 10 0

/-- An active entry. -/
def activeOf (record : Bytes 64) (context : Context) (blocks : List Nat) : Active :=
  { kind := recordKind record, record := record, context := context, taken := 1000, startTime := 1000
    late := false, grouped := false, blocks := blocks, stats := Stats.zero }

/-- A staging entry. -/
def entryOf (record : Bytes 64) (state : EntryState) (blocks : List Nat) : Entry :=
  { kind := recordKind record, record := record, state := state, status := none, blocks := blocks
    issued := 0, reading := none }

/-- A loading entry with its read 0 in flight as operation 7. -/
def loadingOf (record : Bytes 64) : Entry :=
  { entryOf record .loading [0] with issued := 1, reading := some 7 }

/-- A play engine in a period of 10 ticks that began at `start`, with the vector `v`. -/
def engineOf (start : Tick) (v : Vec) : Engine :=
  { play := 1, period := 1, periodStart := start, periodLength := 10, paceInteger := 10, paceFraction := 0
    accumulator := 0, gateResolved := false, stop := none, vector := v, strobed := false }

/-- Lane 0 with an active entry. -/
def withActive (a : Active) : State := ready.setActive 0 (some a)

/-- A completion record with tag `tag`. -/
def recordOf (tag : Word) : Completion := { retuneCompletion 0 tag 0 0 .ok with kind := kindMark }

/-- A setup block: 16 entries and base 0 in every ring, `capture` entries in the capture ring, interval,
thresholds 1, pin 0's word `pin`. -/
def setupBlock (capture interval pin : Nat) : Bytes 256 :=
  bytesOf 256 ((List.replicate 5 (leBytes 8 0 ++ leBytes 8 16)).flatten ++ leBytes 8 0 ++ leBytes 8 capture
    ++ [7, 1, 1, 0] ++ leBytes 2 20 ++ leBytes 2 interval ++ List.replicate 40 0 ++ leBytes 2 pin)

/-- CONFIGURING, the setup read in flight as operation 0 at `address`. -/
def configuring (address : Addr) : State :=
  { State.reset with
    window := { Window.reset with device := .configuring, setupRead := some ⟨0, address⟩ }
    port := { State.reset.port with bus := [⟨0, .setup, address, 256, []⟩], nextOp := 1 } }

/-! ### Formats, the play sequence and the pace -/

/-- 5.8: N = 10, window 3 to 6, P = 2. -/
theorem test_wrap_sequence :
    let b := burstOf (burstRecord 0 0 1 0 0 0 3 0 0xF 0 0 10 3 6 2 10 0)
    (List.range b.sequenceLength).map (fun j => b.playIndex (j + 1)) =
      [0, 1, 2, 3, 4, 5, 6, 3, 4, 5, 6, 3, 4, 5, 6, 7, 8, 9]
      ∧ (List.range 19).filter (fun j => b.passBoundary j) = [8, 12] := by decide +kernel

theorem test_bounce_sequence :
    let b := burstOf (burstRecord 0 0 2 0 0 0 3 0 0xF 0 0 10 3 6 2 10 0)
    (List.range b.sequenceLength).map (fun j => b.playIndex (j + 1)) =
      [0, 1, 2, 3, 4, 5, 6, 5, 4, 3, 4, 5, 6, 5, 4, 3, 4, 5, 6, 7, 8, 9]
      ∧ b.passNumber 7 = 0 ∧ b.passNumber 17 = 2 ∧ b.passNumber 22 = 2 := by decide +kernel

/-- 6.4: I = 4, F = 12, from tick 500: the starts of periods 1 to 8 and the accumulators after them. -/
theorem test_pace_of_four_and_twelve_thirtyseconds :
    let e := { engineOf 0 ⟨0, 0, 0⟩ with paceInteger := 4, paceFraction := 12 }
    let periods := (List.range 8).foldl
      (fun (r : List Engine × Tick) _ =>
        let x := Engine.startPeriod r.2 (r.1.getLastD e)
        (r.1 ++ [x], x.periodEnd)) ([], 500)
    periods.1.map Engine.periodStart = [500, 504, 508, 513, 517, 521, 526, 530]
      ∧ periods.1.map Engine.accumulator = [12, 24, 4, 16, 28, 8, 20, 0] ∧ periods.2 = 535 := by decide +kernel

/-- 1.9, record 2: S = 12 with I = 10 fails its checks (R147); S = 9 passes. -/
theorem test_strobe_offset_must_be_below_the_pace :
    recordValid (burstRecord 0 0 0 0 0 0 12 0 0xF 0 0 1 0 0 0 10 0) = false
      ∧ recordValid (burstRecord 0 0 0 0 0 0 9 0 0xF 0 0 1 0 0 0 10 0) = true := by decide +kernel

/-- R180: the bytes of a SKIP record with detail 2, phase 1, PINS_HELD 1. -/
theorem test_completion_bytes :
    let c := { recordOf 0x04030201 with kind := 9, lane := 3, status := .skipped, pinsHeld := true, detail := .skip 2 }
    (c.bytes true).take 8 = [1, 2, 3, 4, 3, 9, 18, 5] ∧ (c.bytes true).drop 44 = [2, 0, 0, 0] := by decide +kernel

/-! ### Commands of the register window -/

theorem test_enable_reads_the_setup_block :
    (after (exec .enable State.reset)).map (fun t => (t.window.device, t.port.bus)) =
      some (.configuring, [⟨0, .setup, 0, 256, []⟩]) := by decide +kernel

theorem test_disable_takes_the_lanes_off :
    (after (exec .disable ready)).map (fun t => (t.window.device, (t.lane 3).run)) = some (.off, .off) := by
  decide +kernel

theorem test_resets_clear_the_timebase :
    [Instr.reset, .powerOn, .resetPin].map (fun c => (after (exec c ready)).map State.timebase) =
      [some 0, some 0, some 0] := by decide +kernel

/-- 9.7 and R151: C = 14, T = 2 in a ring of 16 skip 4 records; with nothing staged the SKIP goes at once. -/
theorem test_abort_skips_unread_records :
    (after (exec (.abort 1) (ready.setLane 0 { LaneState.reset with run := .faulted, consumer := 14, tail := 2 }))).map
        (fun t => ((t.lane 0).run, (t.lane 0).consumer, t.post.items.map fun i => (i.record.status, i.record.detail))) =
      some (.stopped, 2, [(.skipped, .skip 4)]) := by decide +kernel

/-- 9.7 step 11. -/
theorem test_start_returns_a_faulted_lane :
    (after (exec (.start 2) (ready.setLane 1 { LaneState.reset with run := .faulted }))).map
      (fun t => (t.lane 1).run) = some .run := by decide +kernel

theorem test_unknown_command_sets_refused :
    (after (exec (.unknownCommand 6) ready)).map (fun t => t.window.refused) = some true := by decide +kernel

/-- 9.7 steps 7 to 9: tail 20 is ignored, tail 11 is taken and slot 9 is read at base + 576. -/
theorem test_submit_of_lane_2 :
    let s := ready.setLane 2 { LaneState.reset with run := .run, consumer := 9, tail := 9 }
    (after (exec (.submit 2 20) s)).map (fun t => (t.window.indexError, (t.lane 2).tail)) = some (true, 9)
      ∧ (after (exec (.submit 2 11) s)).map (fun t => ((t.lane 2).tail, t.port.bus.map BusOp.address)) =
          some (11, [576]) := by decide +kernel

/-- 10.6.3: P = 15, H = 0, head 10 at tick 45000 with a holdoff of 20 microseconds. -/
theorem test_acknowledge_restarts_the_holdoff :
    let s := { ready with
      timebase := 45000, completionRing := { RingWriter.reset with producer := 15 }
      interrupt := { ready.interrupt with holdoff := 20, completion := ⟨4, none, true⟩ } }
    (after (exec (.acknowledgeCompletion 10) s)).map
      (fun t => (t.completionRing.head, t.interrupt.completion.timer, t.interrupt.completion.expired, causeCQ t)) =
      some (10, some 47000, false, true) := by decide +kernel

/-- 7.6: PC = 2, HC = 3, head 7 lets the writer issue slot 2. -/
theorem test_acknowledge_of_the_capture_ring :
    let s := { ready with
      captureRing := { RingWriter.reset with producer := 2, head := 3 }
      capture := { ready.capture with fifo := [⟨50000, 9, true, none, 0, 0⟩], dropped := 3 } }
    (after (exec (.acknowledgeCapture 7) s)).map (fun t => (t.captureRing.head, t.port.bus.map BusOp.address)) =
      some (7, [32]) := by decide +kernel

theorem test_status_write_clears_the_error_code :
    let s := { State.reset with window := { Window.reset with setupError := true, setupCode := 6, refused := true } }
    (after (exec (.statusWrite 0x80000) s)).map (fun t => (t.window.setupCode, t.window.refused)) = some (0, true) := by
  decide +kernel

theorem test_setup_address_halves :
    (after (exec (.setupHiWrite 0xABCD) { State.reset with window := { Window.reset with setupAddress := 0x40 } })).map
        (fun t => t.window.setupAddress) = some 0xABCD00000040
      ∧ (after (exec (.setupLoWrite 0x80) { State.reset with window := { Window.reset with
          setupAddress := 0x100000040 } })).map (fun t => t.window.setupAddress) = some 0x100000080 := by decide +kernel

theorem test_idle_write_changes_nothing : exec (.registerWrite .unused 0xF 9) State.reset = .next State.reset := rfl

/-! ### The input side -/

/-- R116, R118: an unfiltered pin watched BOTH changes on the raw edge. -/
theorem test_raw_edge_of_an_unfiltered_pin :
    let s := { ready with capture := { ready.capture with pins := ready.capture.pins.set 5 ⟨.both, none⟩ } }
    (after (exec (.rawLevelChange 0x20 0) s)).map (fun t => ((t.qualifier.pin 5).level,
      t.capture.fifo.map fun r => (r.time, r.pin, r.level))) = some (true, [(1000, 5, true)]) := by decide +kernel

/-- A BURST of lane 0 that starts at the present tick and drives V0 of its V0 to V3 high; trip set 0, armed over
lane 3, wants V0 low and V5 high. -/
def startsWithTrip : State :=
  { withActive (activeOf plainBurst (.timeWait 1000 false) [0]) with
    store := storeWriteBytes [] 0 [1]
    pins := mapTable (fun n p => if n < 4 then { p with owner := some 0, role := some .drive, output := .low } else p)
      ready.pins
    trips := ready.trips.set 0 { TripSet.reset with pinMask := 0x21, pattern := 0x20, laneMask := 8
                                                    enabled := true, armed := true } }

/-- R116, R128: V5 rises on the tick on which the drive update lifts V0. The look waits for the update, one
hand-over carries both changes, and the set never sees V5 high with V0 low. -/
theorem test_changes_of_one_tick_are_handed_over_together :
    let first := after (exec (.rawLevelChange 0x20 0) startsWithTrip)
    let last := (first.bind fun t => after (exec (.burstStart 0) t)).bind fun t =>
      (after (exec (.strobe 0) t)).bind fun u => after (step u)
    first.map (fun t => (t.outside.level, (t.qualifier.pin 5).level, (t.trip 0).armed)) = some (0x20, false, true)
      ∧ last.map (fun t => ((t.qualifier.pin 0).level, (t.qualifier.pin 5).level, (t.trip 0).armed, (t.lane 3).run)) =
        some (true, true, true, .run) := by decide +kernel

/-- Lane 0 at the end of its burst, V0 to V3 its drive pins, V0 driven high. -/
def endsPlay : State :=
  { withActive (activeOf plainBurst (.playing { engineOf 990 ⟨1, 0, 0⟩ with strobed := true }) [0]) with
    pins := mapTable (fun n p => if n < 4 then { p with owner := some 0, role := some .drive, safe := .low
                                                        output := if n = 0 then .high else .low } else p)
      ready.pins
    qualifier := { ready.qualifier with pins := ready.qualifier.pins.set 0 ⟨true, 0⟩ } }

/-- R92, R114, R116: V5 rises on the tick at which the end of a play drops V0. The look waits for the release, and
both changes are taken at that tick: V0's fall has lag 0. -/
theorem test_play_end_release_is_in_the_look_of_its_tick :
    let first := after (exec (.rawLevelChange 0x20 0) endsPlay)
    let last := (first.bind fun t => after (step t)).bind fun t => after (step t)
    first.map (fun t => (t.qualifier.looked, (t.qualifier.pin 5).level)) = some (false, false)
      ∧ last.map (fun t => (t.timebase, t.qualifier.looked, (t.qualifier.pin 0).level, (t.qualifier.pin 5).level)) =
        some (1000, true, false, true) := by decide +kernel

/-- R114, R119: V0, held high outside up to this tick, is let go: the change is taken at once, though the release
of V0 is still to come. -/
theorem test_released_pin_may_change_before_its_release :
    let s := { endsPlay with
      pins := mapTable (fun n p => if n = 0 then { p with output := .low, safe := .high } else p) endsPlay.pins
      outside := ⟨1, 1⟩ }
    (after (exec (.rawLevelChange 0 0) s)).map (fun t => (t.qualifier.looked, (t.qualifier.pin 0).level)) =
      some (true, false) := by decide +kernel

/-- V5, a SENSE pin of lane 0 with safe level LOW that is watched BOTH, rises outside; an ABORT of lane 0 is queued
after the edge. -/
def edgeThenAbort : State :=
  { ready with
    pins := ready.pins.set 5 { PinEntry.reset with owner := some 0, role := some .sense, safe := .low, watch := .both }
    capture := { ready.capture with pins := ready.capture.pins.set 5 ⟨.both, none⟩ }
    pending := [.rawLevelChange 0x20 0, .abort 1] }

/-- The state some steps later. -/
def stepped : Nat → State → Option State
  | 0, s => some s
  | n + 1, s => (stepped n s).bind fun t => after (step t)

/-- R119: the release is taken first and moves V5 to its safe level. The edge still forms its record, at its level and
with no owner; the move to LOW is a change of its own at the next tick. -/
theorem test_edge_is_kept_when_the_release_is_taken_first :
    (stepped 3 edgeThenAbort).map (fun t => ((t.pin 5).owner, rawLevel t 5, (t.qualifier.pin 5).level, t.capture.fifo)) =
        some (none, false, true, [⟨1000, 5, true, none, 0, 0⟩])
      ∧ (stepped 5 edgeThenAbort).map (fun t => ((t.qualifier.pin 5).level, t.capture.fifo)) =
        some (false, [⟨1000, 5, true, none, 0, 0⟩, ⟨1001, 5, false, none, 0, 1000⟩]) := by decide +kernel

/-- R119: the same with the edge and the ABORT offered after the look of their tick: the next tick's look takes the
edge, with no owner, and the tick after it the move. -/
theorem test_edge_after_the_look_is_kept :
    let s := { edgeThenAbort with qualifier := { edgeThenAbort.qualifier with looked := true } }
    (stepped 6 s).map (fun t => t.capture.fifo) =
      some [⟨1001, 5, true, none, 0, 0⟩, ⟨1002, 5, false, none, 0, 1001⟩] := by decide +kernel

/-- 7.6, R121: a watched change that finds 32 records is dropped and counted; its previous-change time is set. -/
theorem test_full_fifo_drops_and_counts :
    let s := { ready with
      outside := ⟨0x20, 0⟩
      capture := { ready.capture with
        pins := ready.capture.pins.set 5 ⟨.both, none⟩, fifo := List.replicate 32 ⟨50000, 9, true, none, 0, 0⟩, dropped := 3 } }
    (after (step s)).map (fun t => (t.capture.fifo.length, t.capture.dropped, (t.capture.pins.get 5).previous)) =
      some (32, 4, some 1000) := by decide +kernel

/-- 7.5.1, tick 20800: the fourth sample at the new level, owner lane 2. -/
theorem test_sample_completes_a_qualified_change :
    let s := { ready with
      timebase := 20800, outside := ⟨0x20, 0⟩
      pins := ready.pins.set 5 { PinEntry.reset with
        owner := some 2, role := some .sense, safe := .low, qualifierCount := 3, watch := .both }
      qualifier := { ready.qualifier with
        interval := 100, nextSample := 20800, pins := ready.qualifier.pins.set 5 ⟨false, 3⟩ }
      capture := { ready.capture with pins := ready.capture.pins.set 5 ⟨.both, none⟩ } }
    (after (exec .qualifierSample s)).map (fun t => (t.qualifier.pin 5, t.qualifier.nextSample, t.capture.fifo)) =
      some (⟨true, 0⟩, 20900, [⟨20800, 5, true, some 2, 0, 0⟩]) := by decide +kernel

/-- A GROUP_DEADLINE at which lane 0 frees V0 and lane 1, which keeps V1 held, goes on to a staged RELEASE, while
an older claim of lane 2 waits for V0 and V1 and a younger one of lane 3 for V0. -/
def releasesTwice : State :=
  let member (flags : Byte) (pin : Nat) : Active :=
    activeOf (burstRecord flags 2 0 3 3 500 3 0 pin 0 0 1 0 0 0 10 0) .groupWait []
  let waits (pins : Nat) : Active := activeOf (burstRecord 4 0 0 0 0 500 3 0 pins 0 0 1 0 0 0 10 0) .claiming []
  let release : Entry := entryOf (bytesOf 64 [4]) .ready []
  { ((((ready.setActive 0 (some (member 0 1))).setActive 1 (some (member 2 2))).setActive 2 (some (waits 3))).setActive 3
      (some (waits 1))).setStaging 1 [release] with
    pins := mapTable (fun n p => if n < 2 then { p with owner := some (if n = 0 then 0 else 1), role := some .drive } else p)
      ready.pins
    claims := [⟨2, 3, 0, 1500⟩, ⟨3, 1, 0, 1500⟩]
    groups := ready.groups.set 3 { Group.idle with
      state := .forming, member := 3, ready := 3, deadline := 1000, window := 500 } }

/-- R50, R54: the one examination comes after the RELEASE's release too, and the older claim is granted. The test's
own order of the two lanes' requests is one of the free ones. -/
theorem test_examination_follows_all_releases_of_the_event :
    let u := { releasesTwice with groups := ready.groups }
    let e0 := memberTimesOut 0 u
    let e1 := memberTimesOut 1 e0.1
    let t := settle (e1.1, e0.2 ++ e1.2)
    (t.pin 0).owner = some 2 ∧ (t.pin 1).owner = some 2 ∧ t.claims = [⟨3, 1, 0, 1500⟩]
      ∧ (t.lane 1).staging = [] := by decide +kernel

/-! ### Returns of the link -/

/-- 11.3.1: 100 capture entries give code 2, then safe level 3 gives 6, then the address gives 7. -/
theorem test_setup_codes_in_turn :
    ([(100, 3, 0x20), (128, 3, 0x20), (128, 2, 0x20), (128, 2, 0x40)] : List (Nat × Nat × Addr)).map
      (fun x => setupCheck x.2.2 (.data (setupBlock x.1 100 x.2.1))) = [2, 6, 7, 0] := by decide +kernel

theorem test_setup_return_enters_on :
    (after (exec (.setupReadReturn (.data (setupBlock 16 100 2))) (configuring 0x40))).map
      (fun t => (t.window.device, (t.lane 0).run, t.interrupt.holdoff)) = some (.on, .run, 20) := by decide +kernel

/-- 9.7 step 1: lane 0's slot 14 is read at base + 896. -/
theorem test_turn_reads_slot_14 :
    (after (exec .hostPortTurn (ready.setLane 0 { LaneState.reset with run := .run, consumer := 14, tail := 2 }))).map
      (fun t => (t.port.bus.map BusOp.address, (t.lane 0).reserved, t.lastLane)) = some ([896], true, 0) := by
  decide +kernel

/-- 9.7 step 10: C wraps from 15 to 0; the record is staged and waits for its load. -/
theorem test_arrival_wraps_the_consumer_index :
    let s := ready.setLane 0 { LaneState.reset with
      run := .run, consumer := 15, tail := 0, fetch := .live 0, reserved := true }
    (after (exec (.recordArrival 0 plainBurst) s)).map (fun t =>
      ((t.lane 0).consumer, (t.lane 0).reserved, (t.lane 0).staging.map fun e => (e.state, e.blocks))) =
      some (0, false, [(.loading, [0])]) := by decide +kernel

/-- 9.7 step 4: C stays 5, the lane is FAULTED; with the lane idle the FETCH_FAULT is posted at once. -/
theorem test_fetch_error_faults_the_lane :
    let s := ready.setLane 1 { LaneState.reset with
      run := .run, consumer := 5, tail := 8, fetch := .live 0, reserved := true }
    (after (exec (.fetchBusError 1) s)).map (fun t => ((t.lane 1).run, (t.lane 1).consumer,
      t.post.items.map fun i => (i.record.kind, i.record.status))) =
      some (.faulted, 5, [(10, .fetchFault)]) := by decide +kernel

/-- 9.7 step 15. -/
theorem test_discarded_return_is_dropped :
    (after (exec (.discardedFetchReturn 0) (ready.setLane 0 { LaneState.reset with
      run := .stopped, fetch := .discarded 4 }))).map (fun t => ((t.lane 0).fetch, (t.lane 0).staging)) =
      some (.none, []) := by decide +kernel

/-- R34: STROBE and GATE together are BAD_VECTOR; a STROBE vector is accepted and the burst is taken. -/
theorem test_load_returns :
    let s := ready.setStaging 0 [loadingOf plainBurst]
    (after (exec (.loadReadReturn 0 0 (bytesOf 256 (List.replicate 12 0 ++ leBytes 4 0xC00))) s)).map
        (fun t => t.post.items.map fun i => i.record.status) = some [.badVector]
      ∧ (after (exec (.loadReadReturn 0 0 (bytesOf 256 ([5] ++ List.replicate 11 0 ++ leBytes 4 0x400))) s)).map
          (fun t => ((t.lane 0).active.map Active.context, storeVector t.store 0 0)) =
          some (some (.timeWait 1001 false), ⟨5, 0, 0x400⟩) := by decide +kernel

/-- 2.7.4: the blocks of a failed load go back in its event. -/
theorem test_load_fault_frees_the_blocks :
    let s := { ready.setStaging 0 [loadingOf plainBurst] with alloc := ⟨[9], []⟩ }
    (after (exec (.loadFault 0 0) s)).map (fun t => (t.alloc.free, t.post.items.map fun i => i.record.status)) =
      some ([9, 0], [.loadFault]) := by decide +kernel

/-- 2.7.3: D2's read returns after the ABORT. -/
theorem test_withdrawn_load_returns :
    let s := { ready.setStaging 0 [{ loadingOf plainBurst with status := some .aborted }] with alloc := ⟨[9], []⟩ }
    (after (exec (.withdrawnLoadReturn 0 0) s)).map (fun t => (t.alloc.free, t.post.items.map fun i => i.record.status)) =
      some ([9, 0], [.aborted]) := by decide +kernel

theorem test_stale_return_leaves_the_bus :
    (after (exec (.staleReturn 3) { State.reset with port := ⟨.capture, [⟨3, .completion, 0, 48, []⟩], 4⟩ })).map
      (fun t => t.port.bus) = some [] := by decide +kernel

/-- 10.6.3, write 1: slot 15 done, P wraps to 0, the phase becomes 0, the next record goes to slot 0. -/
theorem test_completion_write_wraps_the_phase :
    let s := { ready with
      post := ⟨[⟨.general, recordOf 1⟩, ⟨.general, recordOf 2⟩], []⟩
      completionRing := { RingWriter.reset with producer := 15, head := 10, writing := some 0 } }
    (after (exec .completionWriteDone s)).map (fun t =>
      (t.completionRing.producer, t.completionRing.phase, t.post.items.length, t.port.bus.map BusOp.address)) =
      some (0, false, 1, [0]) := by decide +kernel

/-- 10.6.4, write 5: the carry becomes a new TRIP record. -/
theorem test_carry_becomes_a_trip_record :
    let s := { ready with
      post := ⟨[⟨.trip 0, tripCompletion 0 4 2 43000 43300⟩], []⟩
      trips := ready.trips.set 0 { TripSet.reset with carry := some ⟨1, 4, 48500, 48500⟩ }
      completionRing := { RingWriter.reset with producer := 13, head := 9, writing := some 0 } }
    (after (exec .completionWriteDone s)).map (fun t => (t.post.items, (t.trip 0).carry)) =
      some ([⟨.trip 0, tripCompletion 0 4 1 48500 48500⟩], none) := by decide +kernel

theorem test_completion_write_error_faults_the_device :
    let s := { ready with post := ⟨[⟨.general, recordOf 1⟩], []⟩
                          completionRing := { RingWriter.reset with writing := some 0 } }
    (after (exec .completionWriteError s)).map (fun t => (t.window.device, t.window.faultCause, t.post.items)) =
      some (.fault, .completionWrite, []) := by decide +kernel

/-- 7.6: the write of slot 2 completes. -/
theorem test_capture_write_advances :
    let s := { ready with
      captureRing := { RingWriter.reset with producer := 2, head := 7, writing := some 0 }
      capture := { ready.capture with fifo := [⟨50000, 9, true, none, 0, 0⟩], dropped := 3 } }
    (after (exec .captureWriteDone s)).map (fun t => (t.captureRing.producer, t.capture.fifo, t.capture.dropped)) =
      some (3, [], 3) := by decide +kernel

theorem test_capture_write_error_faults_the_device :
    (after (exec .captureWriteError { ready with captureRing := { RingWriter.reset with writing := some 0 } })).map
      (fun t => (t.window.device, t.window.faultCause)) = some (.fault, .captureWrite) := by decide +kernel

/-! ### Events of a tick -/

/-- 3.7.3, P's expiry first: CLAIM_TIMEOUT, end time 1500. -/
theorem test_claim_times_out :
    let s := { withActive (activeOf plainBurst .claiming [0]) with
      timebase := 1500, claims := [⟨0, 0xF, 0, 1500⟩], alloc := ⟨[], []⟩ }
    (after (exec (.claimTimeout 0) s)).map (fun t => (t.claims, t.alloc.free,
      t.post.items.map fun i => (i.record.status, i.record.startTime, i.record.endTime))) =
      some ([], [0], [(.claimTimeout, 1000, 1500)]) := by decide +kernel

/-- 4.7.3: B0 waiting alone at the deadline 7000. -/
theorem test_group_deadline :
    let s := { withActive (activeOf (burstRecord 0 2 0 3 7 2000 3 0 0xF 0 0 1 0 0 0 10 0) .groupWait []) with
      timebase := 7000
      groups := ready.groups.set 3 { Group.idle with state := .forming, member := 7, ready := 1, deadline := 7000 } }
    (after (exec (.groupDeadline 3) s)).map (fun t => (t.group 3,
      t.post.items.map fun i => (i.record.status, i.record.endTime))) =
      some (Group.idle, [(.groupTimeout, 7000)]) := by decide +kernel

/-- 4.7.2 and 4.7.4: the full group commits for tick 7001 untimed, for 9000 timed, and for 9101 late when the
commit falls at 9100. -/
theorem test_group_commits :
    let g := { Group.idle with state := .forming, member := 7, ready := 5, deadline := 7000 }
    let h := { g with timed := true, startTime := 9000 }
    (g.arrive 1 ⟨7, false, 0, 1500⟩ 7000).map (fun x => (x.startTick, x.late)) = some (7001, false)
      ∧ (h.arrive 1 ⟨7, true, 9000, 1500⟩ 7000).map (fun x => (x.startTick, x.late)) = some (9000, false)
      ∧ (h.arrive 1 ⟨7, true, 9000, 1500⟩ 9100).map (fun x => (x.startTick, x.late)) = some (9101, true)
      ∧ g.arrive 3 ⟨15, false, 0, 800⟩ 5400 = none ∧ g.arrive 3 ⟨7, false, 0, 800⟩ 5400 = none := by decide +kernel

/-- 4.7.2: at 7001 the member plays, GROUPED. -/
theorem test_group_starts :
    let s := { withActive (activeOf (burstRecord 0 2 0 3 1 2000 3 0 0xF 0 0 1 0 0 0 10 0) .groupWait [0]) with
      timebase := 7001
      groups := ready.groups.set 3 { Group.idle with state := .committed, member := 1, ready := 1, startTick := 7001 } }
    (after (exec (.groupStartTick 3) s)).map (fun t => (t.group 3, (t.lane 0).active.map fun a =>
      (a.grouped, a.startTime, a.stats.vectors))) = some (Group.idle, some (true, 7001, 1)) := by decide +kernel

/-- R12: a waiting MARK retires OK at its time. -/
theorem test_mark_due :
    (after (exec (.markDue 0) (withActive { activeOf plainBurst (.timeWait 1000 false) [] with kind := kindMark }))).map
      (fun t => t.post.items.map fun i => (i.record.kind, i.record.status, i.record.endTime)) =
      some [(3, .ok, 1000)] := by decide +kernel

/-- 5.9.1, tick 1000: vectors applied 1, the drive value on the lane's pins. -/
theorem test_burst_start :
    let s := { withActive (activeOf exampleBurst (.timeWait 1000 false) [0]) with
      store := storeWriteBytes [] 0 [1]
      pins := ready.pins.set 0 { PinEntry.reset with owner := some 0, role := some .drive, output := .low } }
    (after (exec (.burstStart 0) s)).map (fun t => ((t.pin 0).output, (t.lane 0).active.map fun a =>
      (a.startTime, a.stats.vectors))) = some (.high, some (1000, 1)) := by decide +kernel

/-- 5.9.1, tick 1043: expect 0000, observed 1111, first failure index 2, pass 0. -/
theorem test_strobe_fails :
    let e := { engineOf 1040 ⟨0, 0, 0x400⟩ with play := 3 }
    let s := { withActive (activeOf exampleBurst (.playing e) [0]) with timebase := 1043, outside := ⟨0xF00, 0⟩
                                                                        qualifier := { ready.qualifier with
                                                                          pins := firstSample { ready with
                                                                            outside := ⟨0xF00, 0⟩ } } }
    (after (exec (.strobe 0) s)).map (fun t => (t.lane 0).active.map fun a =>
      (a.stats.mismatches, a.stats.firstIndex, a.stats.firstPass, a.stats.firstObserved)) =
      some (some (1, 2, 0, 0xF00)) := by decide +kernel

/-- 5.9.1, tick 1033: the gate resolves; 5.9.3, tick 1063: period 5 of an unresolved gate times out. -/
theorem test_gates :
    let b := burstOf exampleBurst
    let e := engineOf 1030 ⟨0, 0xF00, 0x800⟩
    (strobeOutcome b 0xF00 { e with period := 2 } Stats.zero).1.gateResolved = true
      ∧ (strobeOutcome b 0xA00 { e with period := 5 } Stats.zero).1.stop = some .gateTimeout
      ∧ (strobeOutcome b 0xA00 { e with period := 4 } Stats.zero).1.stop = none := by decide +kernel

/-- 5.9.1, tick 1010: period 2 of a vector with H = 1; tick 1080: the burst ends MISMATCH. -/
theorem test_period_ends :
    (after (exec (.periodEnd 0) (withActive (activeOf exampleBurst (.playing (engineOf 990 ⟨0, 0, 0x401⟩)) [])))).map
        (fun t => (t.lane 0).active.map fun a => match a.context with
          | .playing e => (e.period, e.periodStart)
          | _ => (0, 0)) = some (some (2, 1000))
      ∧ (after (exec (.periodEnd 0) { withActive { activeOf exampleBurst (.playing
            { engineOf 1070 ⟨0, 0, 2⟩ with play := 4, period := 3 }) [] with
              stats := ⟨4, 1, 2, 0, 0xF00⟩ } with timebase := 1080 })).map
          (fun t => t.post.items.map fun i => (i.record.status, i.record.stats.vectors, i.record.endTime)) =
          some [(.mismatch, 4, 1080)] := by decide +kernel

/-- R164: the timer stops and the flag is set. -/
theorem test_holdoff_expires :
    let s := { ready with interrupt := { ready.interrupt with completion := ⟨4, some 1000, false⟩ } }
    (after (exec (.holdoffExpiry .completion) s)).map (fun t => t.interrupt.completion) = some ⟨4, none, true⟩ := by
  decide +kernel

/-- 2.7.2: 24 free blocks and X's 64: D3, E and F are granted in turn. -/
theorem test_grants_run_through_the_queue :
    let burst (n : Nat) := entryOf (burstRecord 0 0 0 0 0 0 3 0 0xF 0 0 n 0 0 0 10 0) .waitBlocks []
    let s := { ((ready.setStaging 0 [burst 1024]).setStaging 1 [burst 20]).setStaging 2 [burst 100] with
      alloc := ⟨List.range' 232 24 ++ List.range 64, [⟨0, 64⟩, ⟨1, 2⟩, ⟨2, 7⟩]⟩ }
    let t := allocLook s
    t.alloc = ⟨List.range' 49 15, []⟩
      ∧ (t.lane 0).staging.map Entry.blocks = [List.range' 232 24 ++ List.range 40]
      ∧ (t.lane 1).staging.map Entry.blocks = [[40, 41]]
      ∧ (t.lane 2).staging.map Entry.blocks = [List.range' 42 7] := by decide +kernel

/-- 3.7.2: the release leaves P waiting for V10 and grants Q. -/
theorem test_examination_grants_the_younger_claim :
    let s := { ready with
      claims := [⟨1, 0x3F0, 0xC00, 1500⟩, ⟨2, 0xF, 0x100000, 3100⟩]
      pins := ready.pins.set 10 { PinEntry.reset with owner := some 3, role := some .drive } }
    (examineClaims s).2 = [2] ∧ (examineClaims s).1.claims = [⟨1, 0x3F0, 0xC00, 1500⟩]
      ∧ ((examineClaims s).1.pin 20).role = some .sense := by decide +kernel

/-- 10.6.2: the second firing merges into the queued record. -/
theorem test_second_firing_merges :
    let s := recordFiring 0 4 { ready with timebase := 43000 }
    (recordFiring 0 4 { s with timebase := 43300 }).post.items = [⟨.trip 0, tripCompletion 0 4 2 43000 43300⟩] := by
  decide +kernel

/-! ### Witnesses

One theorem `witness_<Name>` for each obligation with hypotheses: states and operands that meet them, clause
by clause, with boundary values. -/

/-- A state in which every requester's question is answered no. -/
theorem quiet_of (s : State) (h : (requesters.all fun r => !presents s r) = true) : PortQuiet s := by
  intro r hr
  simpa using List.all_eq_true.mp h r hr

theorem next_of {o : Host.Outcome State Fault Refusal} (h : (after o).isSome = true) : ∃ t, o = .next t := by
  cases o with
  | next t => exact ⟨t, rfl⟩
  | fault _ => simp [after] at h
  | refused _ => simp [after] at h

theorem offIsEmpty_of_on (s : State) (h : s.window.device = .on) : OffIsEmpty s := fun hn => absurd h hn

/-- ON, lane 0 playing `plainBurst` from block 0 on V0 to V3, lane 1 waiting alone in group 3 (V8 to V11, block
1), lane 2 with a staged burst that waits for a block, lane 3 TRIPPED with a discarded entry. -/
def busy : State :=
  { ready with
    pending := [.strobe 0]
    timebase := 1003
    lanes := #v[
      { LaneState.reset with
        run := .run, active := some (activeOf plainBurst (.playing (engineOf 1000 ⟨5, 0, 0x400⟩)) [0])
        shadow := some ⟨12, 0, 9, 900⟩ },
      { LaneState.reset with
        run := .run, active := some (activeOf (burstRecord 0 2 0 3 7 2000 3 0 0xF00 0 0 1 0 0 0 10 0) .groupWait [1]) },
      { LaneState.reset with
        run := .run, fetch := .live 4, reserved := true, tail := 3
        staging := [{ entryOf plainBurst .loading [2] with issued := 1, reading := some 3 }] },
      { LaneState.reset with
        run := .tripped, active := some (activeOf plainBurst (.retiring .tripped 990) [])
        staging := [{ entryOf plainBurst .failed [] with status := some .tripDiscard }] }]
    alloc := ⟨List.range' 3 253, []⟩
    pins := mapTable (fun n p =>
      if n < 4 then { p with owner := some 0, role := some .drive, output := .low, safe := .low }
      else if 8 ≤ n ∧ n < 12 then { p with owner := some 1, role := some .drive, held := true, output := .low }
      else p) ready.pins
    groups := ready.groups.set 3 { Group.idle with state := .forming, member := 7, ready := 2, deadline := 2000 }
    store := storeWriteBytes [] 0 [5]
    post := ⟨[⟨.trip 0, tripCompletion 0 8 1 990 990⟩, ⟨.general, recordOf 1⟩], [.context 3]⟩
    completionRing := { RingWriter.reset with producer := 5, writing := some 2 } }

theorem busy_steps : ∃ t, step busy = .next t := next_of (by decide +kernel)

theorem busy_burstsFit : BurstsFit busy := by
  refine ⟨fun l => ?_, ?_, ?_⟩
  · fin_cases l <;>
      simp [busy, State.lane, LaneState.burstsFit, Entry.burstFit, Entry.blocksFit, Active.fit, Engine.fit,
        LaneState.reset, entryOf, activeOf, engineOf] <;> decide +kernel
  · decide +kernel
  · intro r hr
    simp [busy] at hr

theorem busy_blocks : BlocksPartitioned busy := by
  refine ⟨by decide +kernel, fun l => ?_⟩
  have h : ∀ l, (∀ e ∈ (busy.lane l).staging, e.blocksFit)
      ∧ ∀ a ∈ (busy.lane l).active, a.blocks = [] ∨ a.context.owning = true := by
    unfold Entry.blocksFit
    decide +kernel
  refine ⟨(h l).1, fun a ha status endTime hr => ?_⟩
  rcases (h l).2 a ha with hb | ho
  · exact hb
  · rw [hr] at ho
    cases ho

theorem witness_StepRunsFrontCommand : busy.pending = .strobe 0 :: [] := rfl

theorem witness_IdleStepTakesDueEventOrTicks :
    (let s := { ready with interrupt := { ready.interrupt with completion := ⟨4, some 1000, false⟩ } }
     s.pending = [] ∧ tickEvents s ≠ [])
    ∧ (let s := { ready with outside := ⟨0x20, 0⟩ }
       s.pending = [] ∧ tickEvents s = [.rawLevelChange 0x20 0])
    ∧ (ready.pending = [] ∧ tickEvents ready = [] ∧ ready.window.device = .on) := by decide +kernel

theorem witness_TimebaseMovesByTicksAndResets :
    (∃ t, exec .reset busy = .next t) ∧ (∃ t, exec (.strobe 0) busy = .next t)
    ∧ (let s := { ready with timebase := 0xFFFFFFFFFFFF }
       s.pending = [] ∧ tickEvents s = [])
    ∧ (let s := { ready with interrupt := { ready.interrupt with completion := ⟨4, some 1000, false⟩ } }
       s.pending = [] ∧ tickEvents s ≠ [] ∧ ∃ t, step s = .next t) :=
  ⟨next_of (by decide +kernel), next_of (by decide +kernel), by decide +kernel,
    ⟨rfl, by decide +kernel, next_of (by decide +kernel)⟩⟩

theorem configuring_offIsEmpty : OffIsEmpty (configuring 0x40) := by
  intro _
  refine ⟨fun l => ?_, by decide +kernel, rfl, rfl, by decide +kernel, rfl, rfl, rfl, rfl, rfl, rfl⟩
  fin_cases l <;> exact ⟨rfl, rfl, rfl, rfl, rfl, rfl, rfl, rfl⟩

theorem witness_DeviceStateMovesOnlyByItsEvents :
    (OffIsEmpty (configuring 0x40) ∧ ∃ t, exec (.setupReadReturn .busError) (configuring 0x40) = .next t)
    ∧ (OffIsEmpty busy ∧ ∃ t, exec .completionWriteError busy = .next t)
    ∧ ((configuring 0x40).window.device = .configuring ∧ (configuring 0x40).window.setupRead = some ⟨0, 0x40⟩
        ∧ setupCheck 0x40 .busError ≠ 0)
    ∧ State.reset.window.device = .off :=
  ⟨⟨configuring_offIsEmpty, next_of (by decide +kernel)⟩, ⟨offIsEmpty_of_on _ rfl, next_of (by decide +kernel)⟩,
    ⟨rfl, rfl, by decide⟩, rfl⟩

theorem witness_CommandsAcceptedByDeviceState :
    PortQuiet State.reset ∧ PortQuiet ready
    ∧ ((0xFFFFF001 : Word).toNat % 256 = (1 : Word).toNat % 256
        ∧ ¬((1 : Word).toNat % 256 = 4 ∨ (1 : Word).toNat % 256 = 5))
    ∧ ((1 : Word).toNat % 256 = 1 ∧ State.reset.window.device = .off)
    ∧ ((0x104 : Word).toNat % 256 = 4 ∧ State.reset.window.device ≠ .on) ∧ (6 : Word).toNat % 256 = 6
    ∧ ((0xF04 : Word).toNat % 256 = 4 ∧ ready.window.device = .on)
    ∧ ((5 : Word).toNat % 256 = 5 ∧ (5 : Word).toNat / 256 % 16 = 0) :=
  ⟨quiet_of _ (by decide +kernel), quiet_of _ (by decide +kernel), by decide, ⟨rfl, rfl⟩, by decide, rfl, ⟨rfl, rfl⟩,
    rfl, rfl⟩

theorem witness_RegisterLayouts :
    WindowSound State.reset ∧ WindowSound (configuring 0x40)
      ∧ ((0xF04 : Word).toNat % 2 ^ 8 = 4 ∧ (5 : Word).toNat % 2 ^ 8 = 5 ∧ (1 : Word).toNat % 2 ^ 8 = 1
        ∧ (0x102 : Word).toNat % 2 ^ 8 = 2 ∧ (0xFFFFFF03 : Word).toNat % 2 ^ 8 = 3) :=
  ⟨by unfold WindowSound; decide, by unfold WindowSound; decide, by decide⟩

theorem witness_IgnoredWritesChangeNothing :
    PortQuiet State.reset ∧ ((7 : BitVec 4) ≠ 0xF ∨ Reg.control = .ident ∨ Reg.control = .unused)
      ∧ ((∀ k < 12, (0x001 : Word).getLsbD k = (0x3FFFF001 : Word).getLsbD k)
        ∧ (0x001 : Word).getLsbD 31 = (0x3FFFF001 : Word).getLsbD 31
        ∧ (0x001 : Word).getLsbD 30 = (0x3FFFF001 : Word).getLsbD 30)
      ∧ ((0x60000 : Word).getLsbD 17 = (0xFFF7FFFF : Word).getLsbD 17
        ∧ (0x60000 : Word).getLsbD 18 = (0xFFF7FFFF : Word).getLsbD 18
        ∧ (0x60000 : Word).getLsbD 19 = (0xFFF7FFFF : Word).getLsbD 19) :=
  ⟨quiet_of _ (by decide +kernel), by decide, by decide, by decide⟩

theorem witness_RegisterWritesTakeEffect : PortQuiet ready ∧ ∃ t, exec (.submit 0 3) busy = .next t :=
  ⟨quiet_of _ (by decide +kernel), next_of (by decide +kernel)⟩

theorem witness_EnableIssuesSetupRead :
    State.reset.window.device = .off ∧ (configuring 0x40).window.device ≠ .on
      ∧ (configuring 0x40).window.device = .configuring := by decide

theorem setupBlock_entriesFit : SetupEntriesFit (setupBlock 16 100 2) := by
  intro k hk
  exact ⟨4, by decide, by decide, by interval_cases k <;> decide +kernel⟩

/-- A block for each check, that passes the checks before it and fails this one. -/
theorem witness_SetupChecksReportFirstFailure :
    (¬ SetupEntriesFit (setupBlock 100 100 2))
    ∧ (SetupEntriesFit ((setupBlock 16 100 2).set 0 32) ∧ ¬ SetupBasesFit ((setupBlock 16 100 2).set 0 32))
    ∧ (SetupEntriesFit (setupBlock 16 0 2) ∧ SetupBasesFit (setupBlock 16 0 2) ∧ ¬ SetupNumbersFit (setupBlock 16 0 2))
    ∧ (let d := (setupBlock 16 100 2).set 125 1
       SetupEntriesFit d ∧ SetupBasesFit d ∧ SetupNumbersFit d ∧ ¬ SetupTripsFit d)
    ∧ (let d := setupBlock 16 100 3
       SetupEntriesFit d ∧ SetupBasesFit d ∧ SetupNumbersFit d ∧ SetupTripsFit d ∧ ¬ SetupReservedFit d)
    ∧ (let d := setupBlock 16 100 2
       SetupEntriesFit d ∧ SetupBasesFit d ∧ SetupNumbersFit d ∧ SetupTripsFit d ∧ SetupReservedFit d)
    ∧ ((configuring 0x20).window.device = .configuring ∧ (configuring 0x20).window.setupRead = some ⟨0, 0x20⟩
        ∧ setupCheck 0x20 (.data (setupBlock 16 100 2)) ≠ 0) := by
  have fit (d : Bytes 256) (h : ∀ k < 6, (field 16 (16 * k + 8) d).toNat = 2 ^ 4) : SetupEntriesFit d :=
    fun k hk => ⟨4, by decide, by decide, h k hk⟩
  refine ⟨?_, ⟨fit _ (by decide +kernel), ?_⟩, ⟨fit _ (by decide +kernel), ?_, ?_⟩,
    ⟨fit _ (by decide +kernel), ?_, ?_, ?_⟩, ⟨fit _ (by decide +kernel), ?_, ?_, ?_, ?_⟩,
    ⟨fit _ (by decide +kernel), ?_, ?_, ?_, ?_⟩, by decide +kernel⟩
  · intro h
    obtain ⟨j, h4, h12, hj⟩ := h 5 (by decide)
    have h100 : (field 16 (16 * 5 + 8) (setupBlock 100 100 2)).toNat = 100 := by decide +kernel
    rw [h100] at hj
    interval_cases j <;> simp at hj
  all_goals
    first
      | (unfold SetupBasesFit; decide +kernel)
      | (unfold SetupNumbersFit; decide +kernel)
      | (unfold SetupTripsFit; decide +kernel)
      | (unfold SetupReservedFit BytesZero; decide +kernel)

theorem witness_EntryToOnSetsEveryBlock :
    (configuring 0x40).window.device = .configuring ∧ (configuring 0x40).window.setupRead = some ⟨0, 0x40⟩
      ∧ setupCheck 0x40 (.data (setupBlock 16 100 2)) = 0 := by decide +kernel

theorem witness_DisableDropsAllWork :
    State.reset.window.device = .off ∧ (configuring 0x40).window.device ≠ .off ∧ busy.window.device ≠ .off := by decide

theorem witness_WriteErrorTakesDeviceToFault :
    (OffIsEmpty busy ∧ WindowSound busy ∧ busy.completionRing.writing = some 2)
    ∧ (let s := { busy with captureRing := { RingWriter.reset with writing := some 6 } }
       OffIsEmpty s ∧ WindowSound s ∧ s.captureRing.writing = some 6) :=
  ⟨⟨offIsEmpty_of_on _ rfl, by unfold WindowSound; decide, rfl⟩,
    ⟨offIsEmpty_of_on _ rfl, by unfold WindowSound; decide, rfl⟩⟩

theorem witness_StartReturnsLanesToRun : busy.window.device = .on := rfl

theorem witness_AbortWithdrawsAndSkips : busy.window.device = .on := rfl

theorem witness_SubmitReplacesTail :
    (PortQuiet State.reset ∧ State.reset.window.device ≠ .on)
    ∧ (PortQuiet ready ∧ ready.window.device = .on ∧ (ready.lane 2).entries ≤ (16 : BitVec 12).toNat
        ∧ (15 : BitVec 12).toNat < (ready.lane 2).entries ∧ (0 : BitVec 12).toNat = (ready.lane 2).tail) :=
  ⟨⟨quiet_of _ (by decide +kernel), by decide⟩, quiet_of _ (by decide +kernel), by decide +kernel⟩

/-- P = 2, H = 13 in a ring of 16: U is 5; heads 13 and 2 are the ends of the range, 12 and 3 lie outside. -/
theorem witness_AcknowledgeMovesHeads :
    let r : RingWriter := { RingWriter.reset with producer := 2, head := 13 }
    let s := { ready with completionRing := r, captureRing := r }
    PortQuiet State.reset ∧ State.reset.window.device ≠ .on ∧ PortQuiet s ∧ s.window.device = .on ∧ r.sound
      ∧ (∃ k ≤ (r.producer + r.entries - r.head) % r.entries, (2 : BitVec 12).toNat = (r.head + k) % r.entries)
      ∧ (∃ k ≤ (r.producer + r.entries - r.head) % r.entries, (13 : BitVec 12).toNat = (r.head + k) % r.entries)
      ∧ (¬ ∃ k ≤ (r.producer + r.entries - r.head) % r.entries, (3 : BitVec 12).toNat = (r.head + k) % r.entries)
      ∧ (¬ ∃ k ≤ (r.producer + r.entries - r.head) % r.entries, (12 : BitVec 12).toNat = (r.head + k) % r.entries) := by
  refine ⟨quiet_of _ (by decide +kernel), by decide, quiet_of _ (by decide +kernel), rfl, ?_, ⟨5, by decide⟩,
    ⟨0, by decide⟩, ?_, ?_⟩
  · unfold RingWriter.sound
    decide
  all_goals
    rintro ⟨k, hk, h⟩
    have hk5 : k ≤ 5 := hk
    interval_cases k <;> simp [RingWriter.reset] at h

theorem witness_RequestersIssueTheirOperations :
    (let s := ready.setLane 0 { LaneState.reset with run := .run, tail := 1 }
     (0 : LaneId) = s.lastLane + 1 + (0 : Fin 4) ∧ eligible s 0 = true
       ∧ ∀ j < (0 : Fin 4), eligible s (s.lastLane + 1 + j) = false)
    ∧ (let s := ready.setLane 3 { LaneState.reset with run := .tripped, tail := 1 }
       (3 : LaneId) = s.lastLane + 1 + (3 : Fin 4) ∧ eligible s 3 = true
         ∧ ∀ j < (3 : Fin 4), eligible s (s.lastLane + 1 + j) = false)
    ∧ (let older := loadingOf plainBurst
       let e := entryOf plainBurst .loading [1]
       ((ready.setStaging 0 [older, e]).lane 0).staging = [older] ++ e :: []
         ∧ (e.state = .loading ∧ e.status = none ∧ e.reading = none ∧ e.issued < e.blocks.length)
         ∧ ∀ x ∈ [older], ¬(x.state = .loading ∧ x.status = none ∧ x.reading = none ∧ x.issued < x.blocks.length))
    ∧ busy.post.items ≠ []
    ∧ { ready with capture := { ready.capture with fifo := [⟨1, 9, true, none, 0, 0⟩] } }.capture.fifo ≠ [] := by
  decide +kernel

theorem witness_HostPortServesUntilNobodyPresents :
    (let s := ready.setLane 0 { LaneState.reset with run := .run, tail := 1 }
     turnOrder s.port.lastServed = [] ++ .fetch :: [.loader 0, .loader 1, .loader 2, .loader 3, .completion, .capture]
       ∧ presents s .fetch = true)
    ∧ (∃ t, exec (.strobe 0) busy = .next t) ∧ PortQuiet ready ∧ ∃ t, step ready = .next t :=
  ⟨by decide +kernel, next_of (by decide +kernel), quiet_of _ (by decide +kernel), next_of (by decide +kernel)⟩

/-- Lane 0 with its read 0 live, in a run state. -/
def reading (x : RunState) : State :=
  ready.setLane 0 { LaneState.reset with run := x, consumer := 15, fetch := .live 0, reserved := true }

theorem witness_RecordArrivesByRunState :
    (((reading .run).lane 0).fetch = .live 0 ∧ ((reading .run).lane 0).run = .run)
      ∧ (((reading .tripped).lane 0).fetch = .live 0 ∧ ((reading .tripped).lane 0).run = .tripped)
      ∧ recordKind plainBurst = 1 ∧ recordValid plainBurst = true
      ∧ recordKind (bytesOf 64 [2]) = 2 ∧ recordValid (bytesOf 64 [2]) = false
      ∧ recordKind (bytesOf 64 [5]) = 5 ∧ recordValid (bytesOf 64 [5]) = true := by decide +kernel

theorem witness_RecordChecksFollowTheTables :
    recordKind plainBurst = 1 ∧ recordKind (bytesOf 64 [2]) = 2 ∧ recordKind (bytesOf 64 [3]) = 3
      ∧ recordKind (bytesOf 64 [4]) = 4 ∧ recordKind (bytesOf 64 [5]) = 5 ∧ recordKind (bytesOf 64 []) = 0
      ∧ 6 ≤ (recordKind (bytesOf 64 [6])).toNat
      ∧ (63 + 7 / 8 < 64 ∧ 8 % 8 = 0 ∧ 7 < 8)
      ∧ (∀ k ∈ ([0, 1, 2] : List Byte), field 8 2 (bytesOf 64 [1, 0, k]) = k ∧ field 8 3 (bytesOf 64 [1, 0, 0, k]) = k)
      ∧ (field 8 22 (burstRecord 0 2 0 7 1 500 3 0 0xF 0 0 1 0 0 0 10 0)).toNat = 7 := by decide +kernel

theorem witness_FetchFailuresAndDroppedReturns :
    ((reading .run).lane 0).fetch = .live 0
      ∧ ((ready.setLane 0 { LaneState.reset with fetch := .discarded 4 }).lane 0).fetch = .discarded 4
      ∧ PortQuiet ready ∧ ready.window.setupRead = none
      ∧ (∀ l, (ready.lane l).fetch = .none ∧ (ready.lane l).staging = [])
      ∧ ready.completionRing.writing ≠ some 3 ∧ ready.captureRing.writing ≠ some 3 :=
  ⟨by decide +kernel, by decide +kernel, quiet_of _ (by decide +kernel), rfl, by decide +kernel, by decide, by decide⟩

theorem witness_LoadReadsReturn :
    let e := loadingOf plainBurst
    let m := { e with status := some Status.aborted }
    let a (d : Bytes 256) := (field 32 (16 * 0 + 12) d).toNat
    let bad := bytesOf 256 (List.replicate 12 0 ++ leBytes 4 0x2000)
    let good := bytesOf 256 (List.replicate 12 0 ++ leBytes 4 0x1FFF)
    (((ready.setStaging 0 [e]).lane 0).staging[(0 : Fin 4).val]? = some e ∧ e.state = .loading ∧ e.reading = some 7
        ∧ e.status = none)
      ∧ (((ready.setStaging 0 [e, e, e, m]).lane 0).staging[(3 : Fin 4).val]? = some m ∧ m.status = some .aborted)
      ∧ min 16 ((burstOf e.record).vectorCount - 16 * (e.issued - 1)) = 1
      ∧ ¬ a bad < 2 ^ 13 ∧ a good < 2 ^ 13 ∧ e.blocks[e.issued - 1]? = some 0 ∧ storeWf (ready.setStaging 0 [e]).store = true := by
  decide +kernel

theorem witness_WriteDoneAdvancesRing :
    (busy.completionRing.writing = some 2
        ∧ busy.post.items = ⟨.trip 0, tripCompletion 0 8 1 990 990⟩ :: [⟨.general, recordOf 1⟩]
        ∧ (busy.trip 0).carry = none)
    ∧ (let s := { busy with post := ⟨[⟨.general, recordOf 1⟩], [.context 3]⟩ }
       s.post.items = ⟨.general, recordOf 1⟩ :: [] ∧ s.post.waiting = .context 3 :: [])
    ∧ ({ busy with post := ⟨[⟨.general, recordOf 1⟩], []⟩ } : State).post.waiting = []
    ∧ (let s := { busy with trips := busy.trips.set 0 { TripSet.reset with carry := some ⟨1, 8, 999, 999⟩ } }
       (s.trip 0).carry = some ⟨1, 8, 999, 999⟩)
    ∧ ({ ready with captureRing := { RingWriter.reset with producer := 15, writing := some 6 } } : State).captureRing.writing
        = some 6 := by decide +kernel

theorem witness_AllocatorGrantsHeadWhileItFits :
    let e := entryOf plainBurst .waitBlocks []
    let s := { ready.setStaging 0 [loadingOf plainBurst, e] with alloc := ⟨[9], [⟨0, 1⟩]⟩ }
    (s.alloc.queue = ⟨0, 1⟩ :: [] ∧ (s.lane 0).staging = [loadingOf plainBurst] ++ e :: [] ∧ e.state = .waitBlocks
        ∧ (∀ x ∈ [loadingOf plainBurst], x.state ≠ .waitBlocks) ∧ 1 ≤ s.alloc.free.length)
      ∧ ({ s with alloc := ⟨[], [⟨0, 1⟩]⟩ } : State).alloc.free.length < 1 ∧ ready.alloc.queue = [] := by decide +kernel

theorem witness_ClaimsAreGrantedRefusedOrWait :
    let a := activeOf plainBurst .claiming [0]
    let w := activeOf (burstRecord 4 0 0 0 0 500 3 0 0xF 0 0 1 0 0 0 10 0) .claiming [0]
    let g := activeOf (burstRecord 0 2 0 3 1 500 3 0 0xF 0 0 1 0 0 0 10 0) .claiming [0]
    let taken (x : Active) : State :=
      { withActive x with pins := ready.pins.set 0 { PinEntry.reset with owner := some 1, role := some .drive } }
    (((withActive a).lane 0).active = some a ∧ a.context = .claiming ∧ (burstOf a.record).startMode ≠ .group
        ∧ ∀ n : PinId, ((withActive a).pin n).owner = none)
      ∧ ((taken a).pin 0).owner = some 1 ∧ (burstOf a.record).drive.getLsbD 0 = true
      ∧ (burstOf a.record).waitPins = false ∧ (burstOf w.record).waitPins = true ∧ w.context = .claiming
      ∧ (burstOf g.record).startMode = .group
      ∧ ((withActive g).group (burstOf g.record).group).arrive 0 (arrivalOf (burstOf g.record)) 1000 ≠ none
      ∧ (Group.idle.arrive 1 (arrivalOf (burstOf g.record)) 1000) = none := by decide +kernel

theorem witness_ExaminationGrantsEveryClaimThatFits :
    let c : Claim := ⟨2, 0xF, 0, 3100⟩
    (∀ n : PinId, (c.drive ||| c.sense).getLsbD n = true → (ready.pin n).owner = none ∨ (ready.pin n).owner = some 2)
      ∧ (¬ ∀ n : PinId, (c.drive ||| c.sense).getLsbD n = true → (busy.pin n).owner = none ∨ (busy.pin n).owner = some 2)
      ∧ (ready.lane 1).active = none ∧ (busy.lane 0).active.map Active.context ≠ some .claiming
      ∧ (let a := activeOf plainBurst .claiming [0]
         ((withActive a).lane 0).active = some a ∧ a.context = .claiming) := by
  decide +kernel

theorem witness_WaitsEndAtTheirTick :
    (let a := activeOf plainBurst .claiming [0]
     let s := { withActive a with claims := [⟨0, 0xF, 0, 1000⟩] }
     (⟨0, 0xF, 0, 1000⟩ : Claim) ∈ s.claims ∧ s.timebase = 1000 ∧ (s.lane 0).active = some a ∧ a.context = .claiming)
    ∧ (let a := { activeOf plainBurst (.timeWait 1000 false) [] with kind := kindMark }
       ((withActive a).lane 0).active = some a ∧ a.kind = 3 ∧ a.context = .timeWait (withActive a).timebase false)
    ∧ (let a := activeOf plainBurst (.playing (engineOf 1000 ⟨5, 0, 0x400⟩)) [0]
       Retires 0 a .ok busy (retire 0 a .ok busy).1 (retire 0 a .ok busy).2)
    ∧ (∀ y ∈ ([.look, .examine] : List Task), y = .look ∨ y = .examine) ∧ Task.take 0 ≠ .look
    ∧ Task.take 0 ≠ .examine :=
  ⟨by decide +kernel, by decide +kernel,
    ⟨rfl, by decide +kernel, by decide +kernel, by decide +kernel⟩, by decide, by decide, by decide⟩

theorem witness_GroupsAnswerArrivalsAndCommit :
    Group.idle.state = .idle ∧ (busy.group 3).state = .forming
      ∧ ({ busy.group 3 with ready := 7 } : Group).ready = (busy.group 3).member
      ∧ (let s := { ready with groups := ready.groups.set 7 { Group.idle with state := .committed } }
         PortQuiet s ∧ (s.group 7).state = .committed)
      ∧ inMask (8 : LaneMask) 3 = true ∧ inMask (8 : LaneMask) 0 = false :=
  ⟨rfl, by decide +kernel, by decide +kernel, ⟨quiet_of _ (by decide +kernel), by decide +kernel⟩, by decide, by decide⟩

theorem witness_GroupDeadlineFailsReadyMembers :
    let s := { busy with timebase := 2000 }
    (s.group 3).state = .forming ∧ (s.group 3).deadline = s.timebase := by decide +kernel

theorem witness_GroupStartTickStartsReadyMembers :
    let a := activeOf (burstRecord 0 2 0 3 7 2000 3 0 0xF00 0 0 1 0 0 0 10 0) .groupWait [1]
    let g := { Group.idle with state := GroupState.committed, member := 2, ready := 2, startTick := 1003 }
    let s := { busy with groups := ready.groups.set 3 g }
    (s.group 3).state = .committed ∧ (s.group 3).startTick = s.timebase
      ∧ ∀ l, (s.group 3).ready.getLsbD l.val = true → (s.lane l).active = some a ∧ a.context = .groupWait
          ∧ vectorOf s.store a.blocks ((burstOf a.record).playIndex 1) = some ⟨0, 0, 0⟩ := by decide +kernel

/-- Lane 0 idle with one staged entry and a skip note. -/
def staged (x : RunState) (skip : Option SkipNote) (q : List Entry) : State :=
  ready.setLane 0 { LaneState.reset with run := x, skip := skip, staging := q }

theorem witness_LanesTakeTheirFrontItem :
    let bare (k : Byte) := entryOf (bytesOf 64 [k]) .ready []
    ((busy.lane 0).active ≠ none ∧ (State.reset.lane 0).run = .off)
      ∧ (((staged .stopped (some ⟨4, 0⟩) []).lane 0).active = none
        ∧ ((staged .stopped (some ⟨4, 0⟩) []).lane 0).run ≠ .off
        ∧ ((staged .stopped (some ⟨4, 0⟩) []).lane 0).skip = some ⟨4, 0⟩)
      ∧ ((staged .run (some ⟨4, 1⟩) [bare 4]).lane 0).staging = bare 4 :: []
      ∧ (loadingOf plainBurst).state ≠ .ready ∧ (loadingOf plainBurst).state ≠ .failed
      ∧ (bare 3).state = .ready ∧ (bare 3).kind = 3 ∧ (bare 4).kind = 4 ∧ (bare 5).kind = 5
      ∧ (entryOf plainBurst .ready [0]).kind = 1
      ∧ ((staged .tripped none [bare 5]).lane 0).run = .tripped
      ∧ ((staged .faulted none [fetchFaultEntry]).lane 0).staging = fetchFaultEntry :: []
      ∧ fetchFaultEntry.state = .failed ∧ fetchFaultEntry.status = some .fetchFault := by decide +kernel

theorem witness_PostQueueGrantsGeneralEntries :
    ((busy.post.items.filter fun i => i.source == .general).length < 14 ∧ ready.post.waiting = [])
      ∧ busy.post.waiting ≠ []
      ∧ ((busy.lane 3).active = some (activeOf plainBurst (.retiring .tripped 990) []))
      ∧ (let s := ready.setLane 0 { LaneState.reset with run := .run, outbox := [recordOf 1, recordOf 2] }
         (s.lane 0).outbox = recordOf 1 :: [recordOf 2]) := by decide +kernel

theorem witness_BurstStartEntersPlaying :
    let a := activeOf exampleBurst (.timeWait 1000 false) [0]
    ((withActive a).lane 0).active = some a ∧ a.kind = 1 ∧ a.context = .timeWait (withActive a).timebase false
      ∧ vectorOf (withActive a).store a.blocks ((burstOf a.record).playIndex 1) = some ⟨0, 0, 0⟩ := by decide +kernel

theorem witness_StrobeComparesAndTestsGates :
    let e := engineOf 997 ⟨0, 0, 0x400⟩
    let a := activeOf exampleBurst (.playing e) [0]
    let s := { withActive a with outside := ⟨0xF00, 0⟩ }
    PortQuiet s ∧ (s.lane 0).active = some a ∧ a.context = .playing e ∧ e.strobed = false
      ∧ e.periodStart + (burstOf a.record).strobeOffset.setWidth 48 = s.timebase
      ∧ ∀ n : PinId, (0xF00 : Pins).getLsbD n = ((burstOf a.record).sense.getLsbD n && rawLevel s n) :=
  ⟨quiet_of _ (by decide +kernel), by decide +kernel, rfl, rfl, by decide +kernel, by decide +kernel⟩

/-- Stop pending; a second period; a second play; the end of the last play. -/
theorem witness_PeriodEndDecidesWhatFollows :
    let stops := { engineOf 990 ⟨0, 0, 0⟩ with stop := some Status.gateTimeout }
    let holds := engineOf 990 ⟨0, 0, 1⟩
    let goes := engineOf 990 ⟨0, 0, 0⟩
    let ends := { engineOf 990 ⟨0, 0, 0⟩ with play := 4 }
    let a (e : Engine) := activeOf exampleBurst (.playing e) [0]
    (∀ e ∈ [stops, holds, goes, ends], ((withActive (a e)).lane 0).active = some (a e)
        ∧ e.periodStart + e.periodLength = (withActive (a e)).timebase)
      ∧ stops.stop = some .gateTimeout
      ∧ (holds.stop = none ∧ holds.vector.gate = false ∧ holds.period < holds.vector.hold + 1)
      ∧ (goes.stop = none ∧ goes.vector.gate = false ∧ ¬ goes.period < goes.vector.hold + 1
        ∧ goes.play < (burstOf exampleBurst).sequenceLength
        ∧ vectorOf (withActive (a goes)).store [0] ((burstOf exampleBurst).playIndex (goes.play + 1)) = some ⟨0, 0, 0⟩
        ∧ (burstOf exampleBurst).passBoundary (goes.play + 1) = false)
      ∧ (ends.stop = none ∧ (burstOf exampleBurst).sequenceLength ≤ ends.play)
      ∧ (requesters.all fun r => !presents (withActive (a holds)) r) = true := by decide +kernel

theorem witness_RetuneAtPassBoundary :
    let r := burstRecord 0 0 1 0 0 0 3 0 0xF 0 0 2 0 1 2 10 0
    let e := { engineOf 990 ⟨0, 0, 0⟩ with play := 2 }
    let a := activeOf r (.playing e) [0]
    let s (i : Half) := (withActive a).setLane 0 { (withActive a).lane 0 with shadow := some ⟨i, 8, 1, 900⟩ }
    ((s 4).lane 0).active = some a ∧ e.periodStart + e.periodLength = (s 4).timebase ∧ e.stop = none
      ∧ e.vector.gate = false ∧ e.vector.hold + 1 ≤ e.period ∧ e.play < (burstOf r).sequenceLength
      ∧ (burstOf r).passBoundary (e.play + 1) = true
      ∧ vectorOf (s 4).store a.blocks ((burstOf r).playIndex (e.play + 1)) = some ⟨0, 0, 0⟩
      ∧ (burstOf r).strobeOffset.toNat < (4 : Half).toNat ∧ ¬ (burstOf r).strobeOffset.toNat < (3 : Half).toNat := by
  decide +kernel

/-- NONE; WRAP with the longest window; BOUNCE with the shortest. -/
theorem witness_PlaySequenceIsLeadInPassesTail :
    burstValid plainBurst = true
      ∧ burstValid (burstRecord 0 0 1 0 0 0 3 0 0xF 0 0 1024 0 1023 65535 10 0) = true
      ∧ burstValid (burstRecord 0 0 2 0 0 0 3 0 0xF 0 0 2 0 1 1 10 0) = true := by decide +kernel

theorem witness_PassNumbersCountPassBoundaries :
    burstValid plainBurst = true ∧ burstValid (burstRecord 0 0 2 0 0 0 3 0 0xF 0 0 10 3 6 2 10 0) = true := by decide +kernel

theorem witness_PaceSpreadsLongPeriods :
    let e := { engineOf 500 ⟨0, 0, 0⟩ with paceInteger := 4, paceFraction := 31 }
    e.accumulator = 0 ∧ e.paceFraction.toNat ≤ 31 := by decide

theorem witness_DueTestCoversHalfTheTimebase :
    (0 < 2 ^ 47 ∧ 2 ^ 47 - 1 < 2 ^ 47) ∧ (1 ≤ 2 ^ 47 ∧ 2 ^ 47 ≤ 2 ^ 47) ∧ due 5 4 = false
      ∧ due (5 + 2 ^ 47) 5 = false ∧ due 5 5 = true := by decide +kernel

theorem witness_QualifierFollowsAndSamples :
    State.reset.window.device ≠ .on ∧ ready.window.device = .on
      ∧ (let s := { ready with qualifier := { ready.qualifier with nextSample := 1000 } }
         s.window.device = .on ∧ s.qualifier.nextSample = s.timebase)
      ∧ (lookReady ready = true ∧ lookReady startsWithTrip = false
        ∧ lookReady { ready with pending := [.rawLevelChange 0 0] } = false)
      ∧ (let s := { ready with qualifier := { ready.qualifier with looked := true } }
         s.qualifier.looked = true ∧ s.qualifier.nextSample ≠ s.timebase
           ∧ ((after (exec (.rawLevelChange 1 0) s)).map fun t => t.window.device) = some .on)
      ∧ (let s := { startsWithTrip with qualifier := { ready.qualifier with looked := true } }
         s.pending = [] ∧ tickEvents s ≠ [] ∧ (after (step s)).isSome = true)
      ∧ (let s := { ready with qualifier := { ready.qualifier with looked := true } }
         s.pending = [] ∧ tickEvents s = []) := by decide +kernel

theorem witness_TripRecordsArePlacedMergedOrCarried :
    let c := tripCompletion 0 8 65535 990 990
    let s := { busy with post := ⟨[⟨.general, recordOf 1⟩, ⟨.trip 0, c⟩], []⟩ }
    (¬ ∃ x ∈ ready.post.items, x.source = .trip 0)
      ∧ (s.post.items = [⟨.general, recordOf 1⟩] ++ ⟨.trip 0, c⟩ :: [] ∧ c.detail = .trip 8 0 65535
        ∧ (∀ x ∈ ([⟨.general, recordOf 1⟩] ++ [] : List PostItem), x.source ≠ .trip 0)
        ∧ s.post.items.head?.map PostItem.source ≠ some (.trip 0))
      ∧ ((∃ x ∈ busy.post.items, x.source = .trip 0) ∧ busy.completionRing.writing ≠ none
        ∧ busy.post.items.head?.map PostItem.source = some (.trip 0))
      ∧ (busy.completionRing.writing = some 2 ∧ busy.window.device = .on
        ∧ busy.post.items = ⟨.trip 0, tripCompletion 0 8 1 990 990⟩ :: [⟨.general, recordOf 1⟩]
        ∧ (busy.trip 0).carry = none ∧ (∀ x ∈ ([⟨.general, recordOf 1⟩] : List PostItem), x.source ≠ .trip 0)
        ∧ ((busy.setTrip 0 { TripSet.reset with carry := some ⟨1, 4, 995, 999⟩ }).trip 0).carry =
            some ⟨1, 4, 995, 999⟩) := by decide +kernel

theorem witness_HoldoffExpiryRaisesCauses :
    let s := { ready with interrupt := { ready.interrupt with
      completion := ⟨4, some 1000, false⟩, capture := ⟨1, some 1000, false⟩ } }
    PortQuiet s ∧ s.interrupt.completion.timer = some s.timebase ∧ s.interrupt.capture.timer = some s.timebase :=
  ⟨quiet_of _ (by decide +kernel), rfl, rfl⟩

/-- In `ready` none of these events is at hand; in `s` the strobe is taken and the period ends a tick later. -/
theorem witness_EventsOutOfPlaceChangeNothing :
    PortQuiet ready ∧ ready.qualifier.nextSample ≠ ready.timebase ∧ ready.claims = []
      ∧ (∀ g, (ready.group g).state = .idle) ∧ (∀ l, (ready.lane l).active = none) ∧ (∀ l, (ready.lane l).fetch = .none)
      ∧ (∀ l, (ready.lane l).staging = []) ∧ ready.interrupt.completion.timer = none
      ∧ ready.interrupt.capture.timer = none ∧ ready.completionRing.writing = none ∧ ready.captureRing.writing = none
      ∧ ready.window.device ≠ .configuring
      ∧ (let e := { engineOf 991 ⟨0, 0, 0⟩ with strobed := true }
         let s := withActive (activeOf exampleBurst (.playing e) [0])
         PortQuiet s ∧ e.strobed = true ∧ e.periodStart + e.periodLength ≠ s.timebase) :=
  ⟨quiet_of _ (by decide +kernel), by decide, rfl, by decide +kernel, by decide +kernel, by decide +kernel,
    by decide +kernel, rfl, rfl, rfl, rfl, by decide, quiet_of _ (by decide +kernel), rfl, by decide⟩

theorem witness_StepKeepsBlocksPartitioned : BlocksPartitioned busy ∧ ∃ t, step busy = .next t :=
  ⟨busy_blocks, busy_steps⟩

theorem witness_StepKeepsPinsSound : PinsSound busy ∧ ∃ t, step busy = .next t :=
  ⟨by unfold PinsSound PinEntry.sound; decide +kernel, busy_steps⟩

theorem witness_StepKeepsGroupsSound : GroupsSound busy ∧ ∃ t, step busy = .next t := by
  refine ⟨fun g => ⟨by revert g; decide +kernel, by revert g; decide +kernel, fun l hl => ?_⟩, busy_steps⟩
  have h : ∀ g l, inMask (busy.group g).ready l = true → g = 3 ∧ l = 1 := by decide +kernel
  obtain ⟨rfl, rfl⟩ := h g l hl
  exact ⟨activeOf (burstRecord 0 2 0 3 7 2000 3 0 0xF00 0 0 1 0 0 0 10 0) .groupWait [1], by decide +kernel⟩

theorem witness_StepKeepsQueuesAndRingsBounded : (PostBounded busy ∧ RingsSound busy) ∧ ∃ t, step busy = .next t :=
  ⟨⟨by unfold PostBounded; decide +kernel, by unfold RingsSound RingWriter.sound; decide +kernel⟩, busy_steps⟩

theorem witness_StepKeepsLanesBounded : LanesBounded busy ∧ ∃ t, step busy = .next t := by
  refine ⟨fun l => ⟨⟨fun h => ?_, fun h => ?_⟩, by revert l; decide +kernel, by revert l; decide +kernel,
    by revert l; decide +kernel⟩, busy_steps⟩
  · have h2 : ∀ l, (busy.lane l).reserved = true → (busy.lane l).fetch = .live 4 := by decide +kernel
    exact ⟨4, h2 l h⟩
  · obtain ⟨op, h⟩ := h
    have h2 : ∀ l, (busy.lane l).fetch ≠ .none → (busy.lane l).reserved = true := by decide +kernel
    exact h2 l (by simp [h])

theorem witness_StepKeepsOffEmptyAndRegistersSound :
    ((OffIsEmpty busy ∧ WindowSound busy) ∧ ∃ t, step busy = .next t)
      ∧ ((OffIsEmpty (configuring 0x40) ∧ WindowSound (configuring 0x40)) ∧ ∃ t, step (configuring 0x40) = .next t) :=
  ⟨⟨⟨offIsEmpty_of_on _ rfl, by unfold WindowSound; decide⟩, busy_steps⟩,
    ⟨configuring_offIsEmpty, by unfold WindowSound; decide⟩, next_of (by decide +kernel)⟩

theorem witness_StepKeepsTrippedLanesDrained :
    TrippedIsDrained busy ∧ (busy.lane 3).run = .tripped ∧ ∃ t, step busy = .next t := by
  refine ⟨fun l hl => ?_, by decide +kernel, busy_steps⟩
  have h : ∀ l, (busy.lane l).run = .tripped → l = 3 := by decide +kernel
  obtain rfl := h l hl
  refine ⟨by decide +kernel, by decide +kernel, by decide +kernel, fun a ha => ⟨.tripped, 990, ?_⟩, ?_⟩
  · have h3 : (busy.lane 3).active = some (activeOf plainBurst (.retiring .tripped 990) []) := by decide +kernel
    rw [h3] at ha
    cases ha
    rfl
  · unfold Entry.trippedFit
    decide +kernel

theorem witness_StepKeepsBurstsFit : BurstsFit busy ∧ ∃ t, step busy = .next t := ⟨busy_burstsFit, busy_steps⟩

theorem witness_StepKeepsBuffersSound :
    (StoreCanonical busy ∧ FifoBounded busy ∧ StabilityBounded busy) ∧ ∃ t, step busy = .next t :=
  ⟨⟨by unfold StoreCanonical; decide +kernel, by unfold FifoBounded; decide +kernel,
    by unfold StabilityBounded; decide +kernel⟩, busy_steps⟩

theorem witness_WellFormedCommandsComplete :
    BurstsFit busy ∧ ∀ c ∈ busy.pending.head?, c.wellFormed = true := ⟨busy_burstsFit, by decide⟩

end Sys2Proof.Tests
end

section
/-! The allocator's look (R29, R30). A look is a run of turns, each of which takes the head request off the
queue; what a turn does is said once, by `allocTurn`, and the look's fuel is shown to outlast its turns. -/

namespace Sys2Proof.Machine

/-! ### The oldest entry that waits for blocks -/

section
variable {older : List Entry} (hold : ∀ x ∈ older, x.state ≠ .waitBlocks)
include hold

theorem oldestWaiting_append_of_none_wait (q : List Entry) : oldestWaiting (older ++ q) = oldestWaiting q := by
  have hnone : older.find? (·.state == .waitBlocks) = none := by simpa using hold
  simp [oldestWaiting, List.find?_append, hnone]

theorem oldestWaiting_append_cons {e : Entry} (he : e.state = .waitBlocks) (younger : List Entry) :
    oldestWaiting (older ++ e :: younger) = some e := by
  rw [oldestWaiting_append_of_none_wait hold]
  simp [oldestWaiting, he]

theorem grantOldest_append_cons {e : Entry} (he : e.state = .waitBlocks) (younger : List Entry) (bs : List Nat) :
    grantOldest bs (older ++ e :: younger) = older ++ e.grant bs :: younger := by
  induction older with
  | nil => simp [grantOldest, he]
  | cons x xs ih =>
    obtain ⟨hx, hxs⟩ := List.forall_mem_cons.1 hold
    simp [grantOldest, hx, ih hxs]

theorem oldestWaiting_append_grant (e : Entry) (younger : List Entry) (bs : List Nat) :
    oldestWaiting (older ++ e.grant bs :: younger) = oldestWaiting younger := by
  rw [oldestWaiting_append_of_none_wait hold]
  simp [oldestWaiting, Entry.grant]

end

/-- The entries of a staging queue that wait for blocks. -/
def waitingCount (q : List Entry) : Nat := q.countP (·.state == .waitBlocks)

theorem waitingCount_le_length (q : List Entry) : waitingCount q ≤ q.length := List.countP_le_length

/-- A grant takes one entry out of WAIT_BLOCKS when the queue has such an entry. -/
theorem waitingCount_grantOldest {q : List Entry} (h : oldestWaiting q ≠ none) (bs : List Nat) :
    waitingCount (grantOldest bs q) + 1 = waitingCount q := by
  obtain ⟨e, he⟩ := Option.ne_none_iff_exists'.1 h
  obtain ⟨hwait, older, younger, rfl, hold⟩ := List.find?_eq_some_iff_append.1 he
  rw [grantOldest_append_cons (by simpa using hold) (by simpa using hwait)]
  simp [waitingCount, Entry.grant, hwait, Nat.add_assoc]

/-! ### Placing a request -/

theorem hasRequest_iff (l : LaneId) (s : State) : hasRequest l s = true ↔ ∃ q ∈ s.alloc.queue, q.lane = l := by
  simp [hasRequest]

/-- What lane `l` adds to the wait queue when it is asked to place its request. -/
def placedRequest (l : LaneId) (s : State) : List AllocRequest :=
  if ∃ q ∈ s.alloc.queue, q.lane = l then []
  else
    match oldestWaiting (s.lane l).staging with
    | none => []
    | some e => [⟨l, (burstOf e.record).blockNeed⟩]

/-- Placing a request appends to the wait queue and changes nothing else. -/
theorem placeRequest_eq (l : LaneId) (s : State) :
    placeRequest l s = { s with alloc := { s.alloc with queue := s.alloc.queue ++ placedRequest l s } } := by
  by_cases hr : ∃ q ∈ s.alloc.queue, q.lane = l
  · simp [placeRequest, placedRequest, (hasRequest_iff l s).2 hr, if_pos hr]
  · simp only [placeRequest, placedRequest, mt (hasRequest_iff l s).1 hr, if_neg hr]
    cases oldestWaiting (s.lane l).staging <;> simp

theorem placedRequest_length_le (l : LaneId) (s : State) : (placedRequest l s).length ≤ 1 := by
  unfold placedRequest
  split
  · simp
  · split <;> simp

@[simp] theorem placeRequest_lane (l : LaneId) (s : State) (k : LaneId) : (placeRequest l s).lane k = s.lane k := by
  rw [placeRequest_eq]; rfl

/-! ### Granting the head -/

/-- The state between the two halves of a grant: the head off the queue and its blocks moved, the lane's next
request not yet placed. -/
def movedBlocks (r : AllocRequest) (rest : List AllocRequest) (s : State) : State :=
  { s with alloc := { free := s.alloc.free.drop r.need, queue := rest } }.setStaging r.lane
    (grantOldest (s.alloc.free.take r.need) (s.lane r.lane).staging)

theorem grantHead_eq (r : AllocRequest) (rest : List AllocRequest) (s : State) :
    grantHead r rest s = placeRequest r.lane (movedBlocks r rest s) := rfl

theorem movedBlocks_lane (r : AllocRequest) (rest : List AllocRequest) (s : State) (k : LaneId) :
    (movedBlocks r rest s).lane k =
      if k = r.lane then { s.lane r.lane with
        staging := grantOldest (s.alloc.free.take r.need) (s.lane r.lane).staging }
      else s.lane k := by
  simp only [movedBlocks, State.setStaging_eq, State.lane_setLane, eq_comm (a := r.lane)]
  rfl

theorem grantHead_lane (r : AllocRequest) (rest : List AllocRequest) (s : State) (k : LaneId) :
    (grantHead r rest s).lane k =
      if k = r.lane then { s.lane r.lane with
        staging := grantOldest (s.alloc.free.take r.need) (s.lane r.lane).staging }
      else s.lane k := by
  rw [grantHead_eq, placeRequest_lane, movedBlocks_lane]

theorem grantHead_free (r : AllocRequest) (rest : List AllocRequest) (s : State) :
    (grantHead r rest s).alloc.free = s.alloc.free.drop r.need := by
  rw [grantHead_eq, placeRequest_eq]; rfl

theorem grantHead_queue (r : AllocRequest) (rest : List AllocRequest) (s : State) :
    (grantHead r rest s).alloc.queue = rest ++ placedRequest r.lane (movedBlocks r rest s) := by
  rw [grantHead_eq, placeRequest_eq]; rfl

/-- A grant changes the lanes and the allocator alone. -/
theorem grantHead_changes (r : AllocRequest) (rest : List AllocRequest) (s : State) :
    grantHead r rest s = { s with lanes := (grantHead r rest s).lanes, alloc := (grantHead r rest s).alloc } := by
  rw [grantHead_eq, placeRequest_eq]; rfl

/-! ### The turns of a look -/

/-- One turn of the allocator's look, or none when the look ends. -/
def allocTurn (s : State) : Option State :=
  match s.alloc.queue with
  | [] => none
  | r :: rest =>
    if (oldestWaiting (s.lane r.lane).staging).isNone then some { s with alloc := { s.alloc with queue := rest } }
    else if r.need ≤ s.alloc.free.length then some (grantHead r rest s)
    else none

theorem allocRun_succ (n : Nat) (s : State) : allocRun (n + 1) s = (allocTurn s).elim s (allocRun n) := by
  cases hq : s.alloc.queue with
  | nil => simp [allocRun, allocTurn, hq]
  | cons r rest =>
    simp only [allocRun, allocTurn, hq]
    split_ifs <;> rfl

theorem allocTurn_of_nil {s : State} (hq : s.alloc.queue = []) : allocTurn s = none := by simp [allocTurn, hq]

theorem allocTurn_of_cons {s : State} {r : AllocRequest} {rest : List AllocRequest} {e : Entry}
    (hq : s.alloc.queue = r :: rest) (he : oldestWaiting (s.lane r.lane).staging = some e) :
    allocTurn s = if r.need ≤ s.alloc.free.length then some (grantHead r rest s) else none := by
  simp [allocTurn, hq, he]

/-- The two turns: a request without an entry that waits leaves the queue, or the head is granted. -/
theorem allocTurn_some_cases {s t : State} (h : allocTurn s = some t) :
    ∃ r rest, s.alloc.queue = r :: rest
      ∧ (t = { s with alloc := { s.alloc with queue := rest } }
        ∨ oldestWaiting (s.lane r.lane).staging ≠ none ∧ t = grantHead r rest s) := by
  unfold allocTurn at h
  split at h
  · cases h
  · next r rest hq =>
    refine ⟨r, rest, hq, ?_⟩
    split at h
    · exact .inl (Option.some.inj h).symm
    · next hsome =>
      split at h
      · exact .inr ⟨by simpa using hsome, (Option.some.inj h).symm⟩
      · cases h

theorem ended_of_allocTurn_none {s : State} (h : allocTurn s = none) :
    s.alloc.queue = [] ∨ ∃ r rest, s.alloc.queue = r :: rest ∧ s.alloc.free.length < r.need := by
  unfold allocTurn at h
  split at h
  · next hq => exact .inl hq
  · next r rest hq =>
    split at h
    · cases h
    · split at h
      · cases h
      · next hfit => exact .inr ⟨r, rest, hq, Nat.lt_of_not_le hfit⟩

/-! ### The look's fuel outlasts its turns -/

/-- The entries of all lanes that wait for blocks. -/
def waitingTotal (s : State) : Nat := (allLanes.map fun l => waitingCount (s.lane l).staging).sum

/-- A bound on the turns that a look has left: a turn takes a request off the queue, and a request is placed in
its stead only when an entry has left WAIT_BLOCKS. -/
def turnsLeft (s : State) : Nat := s.alloc.queue.length + waitingTotal s

theorem turnsLeft_le_fuel (s : State) : turnsLeft s ≤ s.alloc.queue.length + stagedCount s :=
  Nat.add_le_add_left (List.sum_le_sum fun _ _ => waitingCount_le_length _) _

theorem mem_allLanes : ∀ l : LaneId, l ∈ allLanes := by decide

theorem waitingTotal_grantHead_lt {s : State} {r : AllocRequest} (rest : List AllocRequest)
    (h : oldestWaiting (s.lane r.lane).staging ≠ none) : waitingTotal (grantHead r rest s) < waitingTotal s := by
  have granted := waitingCount_grantOldest h (s.alloc.free.take r.need)
  refine List.sum_lt_sum _ _ (fun k _ => ?_) ⟨r.lane, mem_allLanes _, ?_⟩
  · rw [grantHead_lane]
    split
    · next hk => subst hk; exact Nat.le_of_succ_le granted.le
    · exact Nat.le_refl _
  · rw [grantHead_lane, if_pos rfl]
    exact granted.le

theorem turnsLeft_lt_of_allocTurn {s t : State} (h : allocTurn s = some t) : turnsLeft t < turnsLeft s := by
  obtain ⟨r, rest, hq, rfl | ⟨hwait, rfl⟩⟩ := allocTurn_some_cases h
  · simp only [turnsLeft, hq, List.length_cons]
    exact Nat.add_lt_add_right (Nat.lt_succ_self _) _
  · have fewer := waitingTotal_grantHead_lt rest hwait
    have placed := placedRequest_length_le r.lane (movedBlocks r rest s)
    simp only [turnsLeft, grantHead_queue, hq, List.length_append, List.length_cons]
    omega

theorem allocRun_of_allocTurn_none {s : State} (h : allocTurn s = none) (n : Nat) : allocRun n s = s := by
  cases n with
  | zero => rfl
  | succ n => simp [allocRun_succ, h]

/-- Enough fuel lets the run go on until no turn is left. -/
theorem allocTurn_allocRun {n : Nat} {s : State} (hn : turnsLeft s ≤ n) : allocTurn (allocRun n s) = none := by
  induction n generalizing s with
  | zero =>
    cases h : allocTurn s with
    | none => exact h
    | some t => have := turnsLeft_lt_of_allocTurn h; omega
  | succ n ih =>
    rw [allocRun_succ]
    cases h : allocTurn s with
    | none => exact h
    | some t => exact ih (by have := turnsLeft_lt_of_allocTurn h; omega)

/-- Fuel beyond the turns that are left changes nothing. -/
theorem allocRun_eq_allocRun {n m : Nat} {s : State} (hn : turnsLeft s ≤ n) (hm : turnsLeft s ≤ m) :
    allocRun n s = allocRun m s := by
  induction n generalizing m s with
  | zero => exact (allocRun_of_allocTurn_none (allocTurn_allocRun hn) m).symm
  | succ n ih =>
    cases h : allocTurn s with
    | none => rw [allocRun_of_allocTurn_none h, allocRun_of_allocTurn_none h]
    | some t =>
      have fewer := turnsLeft_lt_of_allocTurn h
      obtain ⟨m, rfl⟩ : ∃ k, m = k + 1 := ⟨m - 1, by omega⟩
      rw [allocRun_succ, allocRun_succ, h]
      exact ih (by omega) (by omega)

/-! ### The look -/

theorem allocLook_ended (s : State) :
    (allocLook s).alloc.queue = []
      ∨ ∃ r rest, (allocLook s).alloc.queue = r :: rest ∧ (allocLook s).alloc.free.length < r.need :=
  ended_of_allocTurn_none (allocTurn_allocRun (turnsLeft_le_fuel s))

theorem allocLook_of_allocTurn_none {s : State} (h : allocTurn s = none) : allocLook s = s :=
  allocRun_of_allocTurn_none h _

theorem allocLook_of_allocTurn_some {s t : State} (h : allocTurn s = some t) : allocLook s = allocLook t := by
  have fewer := turnsLeft_lt_of_allocTurn h
  have enough := turnsLeft_le_fuel s
  calc allocLook s = allocRun (s.alloc.queue.length + stagedCount s + 1) s :=
        allocRun_eq_allocRun enough (by omega)
    _ = allocRun (s.alloc.queue.length + stagedCount s) t := by rw [allocRun_succ, h]; rfl
    _ = allocLook t := allocRun_eq_allocRun (by omega) (turnsLeft_le_fuel t)

/-- After the grant to a lane's oldest waiting entry, the lane places the request of the next one that waits,
unless a request of the lane is still in the queue. -/
theorem placedRequest_movedBlocks {s : State} {r : AllocRequest} (rest : List AllocRequest)
    {older younger : List Entry} {e : Entry} (hs : (s.lane r.lane).staging = older ++ e :: younger)
    (he : e.state = .waitBlocks) (hold : ∀ x ∈ older, x.state ≠ .waitBlocks) :
    placedRequest r.lane (movedBlocks r rest s) =
      if ∃ q ∈ rest, q.lane = r.lane then []
      else match oldestWaiting younger with
        | none => []
        | some x => [⟨r.lane, (burstOf x.record).blockNeed⟩] := by
  have nextWaiting : oldestWaiting ((movedBlocks r rest s).lane r.lane).staging = oldestWaiting younger := by
    rw [movedBlocks_lane, if_pos rfl, hs, grantOldest_append_cons hold he, oldestWaiting_append_grant hold]
  rw [placedRequest, nextWaiting]
  rfl

/-- Settles O26: the look is a run of turns (`allocTurn`), whose only turn on a head with a waiting entry is the
grant, and the measure `turnsLeft` shows that its fuel lets it end by itself. -/
theorem allocatorGrantsHeadWhileItFits : Obligations.AllocatorGrantsHeadWhileItFits := by
  refine ⟨allocLook_ended, fun s r rest older younger e hq hs he hold => ?_,
    fun s hq => allocLook_of_allocTurn_none (allocTurn_of_nil hq)⟩
  have oldest : oldestWaiting (s.lane r.lane).staging = some e := by rw [hs, oldestWaiting_append_cons hold he]
  have turn := allocTurn_of_cons hq oldest
  refine ⟨fun hfew => ?_, fun hfit => ⟨grantHead r rest s, ?_, grantHead_changes r rest s, fun k => ?_,
    grantHead_free r rest s, ?_⟩⟩
  · exact allocLook_of_allocTurn_none (turn.trans (if_neg (Nat.not_le_of_lt hfew)))
  · exact allocLook_of_allocTurn_some (turn.trans (if_pos hfit))
  · rw [grantHead_lane, hs, grantOldest_append_cons hold he]
    rfl
  · rw [grantHead_queue, placedRequest_movedBlocks rest hs he hold]
    rfl

end Sys2Proof.Machine
end

section
/-! The start groups (R60 to R65). What a group answers an arrival is said once for each of its states, in the
terms of the rules; a group that is not complete is left alone by the commit, so both accepting states share one
form. -/

namespace Sys2Proof.Machine

/-! ### An event that leaves a quiet Host Port as it was (R163) -/

theorem mem_requesters_of_mem_turnOrder {last r : Requester} (h : r ∈ turnOrder last) : r ∈ requesters := by
  rcases List.mem_append.mp h with later | earlier
  · exact List.mem_of_mem_drop later
  · exact List.mem_of_mem_take earlier

theorem turns_of_portQuiet {s : State} (quiet : PortQuiet s) (n : Nat) : turns n s = s := by
  have nobody : (turnOrder s.port.lastServed).find? (presents s) = none :=
    List.find?_eq_none.mpr fun r hr => by simp [quiet r (mem_requesters_of_mem_turnOrder hr)]
  cases n with
  | zero => rfl
  | succ n => rw [turns, nobody]

theorem finishState_of_portQuiet {s : State} (quiet : PortQuiet s) : finishState s = .next s :=
  congrArg Host.Outcome.next (turns_of_portQuiet quiet _)

/-! ### What a BURST brings to its group (R60) -/

theorem Burst.inMask_member (b : Burst) (l : LaneId) : inMask b.member l = b.memberByte.getLsbD l.val := by
  simp [inMask, Burst.member, l.isLt]

/-! ### The commit (R65) -/

/-- The commit looks at the masks alone: it leaves a group whose members are not all ready as it was. -/
theorem Group.commit_eq_ite (now : Tick) (g : Group) :
    g.commit now = if g.ready = g.member then g.commit now else g := by
  split
  case isTrue => rfl
  case isFalse missing => exact if_neg fun ⟨_, full⟩ => missing full

theorem Group.commit_of_full {g : Group} (now : Tick) (forming : g.state = .forming) (full : g.ready = g.member) :
    g.commit now = { g with
      state := .committed
      startTick := if g.timed = true ∧ due g.startTime now = false then g.startTime else now + 1
      late := g.timed && due g.startTime now } := by
  rw [Group.commit, if_pos ⟨forming, full⟩]
  split
  case isTrue early => simp [early]
  case isFalse h =>
    cases timed : g.timed with
    | false => rfl
    | true =>
      have late : due g.startTime now = true := by simpa [timed] using h
      simp [late]

/-! ### The answer to an arrival, by the group's state (R61 to R63) -/

theorem Group.arrive_of_idle {g : Group} (idle : g.state = .idle) (l : LaneId) (a : Arrival) (now : Tick) :
    g.arrive l a now = if inMask a.member l = true then some ((Group.form l a now).commit now) else none := by
  rw [Group.arrive, idle]

theorem Group.arrive_of_forming {g : Group} (forming : g.state = .forming) (l : LaneId) (a : Arrival) (now : Tick) :
    g.arrive l a now =
      if g.matches l a = true then some ({ g with ready := g.ready ||| laneBit l }.commit now) else none := by
  rw [Group.arrive, forming]

theorem Group.arrive_of_committed {g : Group} (committed : g.state = .committed) (l : LaneId) (a : Arrival)
    (now : Tick) : g.arrive l a now = none := by
  rw [Group.arrive, committed]

/-- The new group commits at once exactly when its one arrival is its one member. -/
theorem Group.form_commit_eq_ite (l : LaneId) (a : Arrival) (now : Tick) :
    (Group.form l a now).commit now =
      if a.member = laneBit l then (Group.form l a now).commit now else Group.form l a now :=
  (Group.commit_eq_ite now _).trans (if_congr eq_comm rfl rfl)

theorem Group.matches_iff (g : Group) (l : LaneId) (a : Arrival) :
    g.matches l a = true ↔ a.member = g.member ∧ inMask g.member l = true ∧ a.timed = g.timed
      ∧ (a.timed = true → a.startTime = g.startTime) := by
  have startTimes (sameFlag : a.timed = g.timed) :
      (g.timed = false ∨ a.startTime = g.startTime) ↔ (a.timed = true → a.startTime = g.startTime) := by
    rw [sameFlag]
    cases g.timed <;> simp
  simp only [Group.matches, Bool.and_eq_true, Bool.or_eq_true, Bool.not_eq_true', beq_iff_eq, and_assoc]
  exact and_congr_right fun _ => and_congr_right fun _ => and_congr_right startTimes

/-! ### A COMMITTED group has no deadline (R65) -/

theorem deadlineDue_of_committed {g : GroupId} {s : State} (committed : (s.group g).state = .committed) :
    deadlineDue g s = false := by
  simp [deadlineDue, committed]

theorem exec_groupDeadline_of_not_due {g : GroupId} {s : State} (quiet : PortQuiet s)
    (h : deadlineDue g s = false) : exec (.groupDeadline g) s = .next s :=
  calc exec (.groupDeadline g) s
    _ = if deadlineDue g s then finish (groupGivesUp g s) else finishState s := rfl
    _ = finishState s := by rw [h]; rfl
    _ = .next s := finishState_of_portQuiet quiet

/-- Settles O30, from the group's answer in each of its three states, the commit of a full group, and the
deadline event, which finds no deadline in a COMMITTED group. -/
theorem groupsAnswerArrivalsAndCommit : Obligations.GroupsAnswerArrivalsAndCommit := by
  refine ⟨fun g l a now idle => ⟨fun outside => ?_, fun member => ?_⟩,
    fun g l a now forming => ⟨fun differs => ?_, fun fits => ?_⟩,
    fun g l a now committed => Group.arrive_of_committed committed l a now,
    fun g now forming full => ?_,
    fun r => ⟨Burst.inMask_member _, rfl, rfl, rfl⟩,
    fun g s quiet committed => exec_groupDeadline_of_not_due quiet (deadlineDue_of_committed committed)⟩
  · rw [Group.arrive_of_idle idle, outside]
    rfl
  · rw [Group.arrive_of_idle idle, if_pos member, Group.form_commit_eq_ite]
    rfl
  · rw [Group.arrive_of_forming forming, if_neg (mt (g.matches_iff l a).mp differs)]
  · rw [Group.arrive_of_forming forming, if_pos ((g.matches_iff l a).mpr fits), Group.commit_eq_ite]
    rfl
  · rw [Group.commit_of_full now forming full]
    simp [due]

end Sys2Proof.Machine
end

section
/-! The play sequence of a BURST (R75 to R79). `playIndex` answers a play from its part of the sequence: the
lead-in, a pass, or the tail. It is shown to list `playSequence`, the sequence that R75 writes out, and the rest is
read off that list. -/

namespace Sys2Proof.Machine

/-! ### What R147 says of the loop window -/

/-- The loop window of a looping mode lies within the vectors (R147). -/
def Burst.WindowFits (b : Burst) : Prop :=
  b.loopMode ≠ .none → b.loopStart ≤ b.loopEnd ∧ b.loopEnd < b.vectorCount

theorem shape_of_burstValid {r : Bytes 64} (valid : burstValid r = true) :
    1 ≤ (burstOf r).vectorCount ∧ (burstOf r).vectorCount ≤ 1024 ∧ (burstOf r).WindowFits := by
  simp only [burstValid, Bool.and_eq_true, Bool.or_eq_true, beq_iff_eq, decide_eq_true_eq, and_assoc] at valid
  obtain ⟨-, -, -, -, pos, few, -, -, -, window, -⟩ := valid
  exact ⟨pos, few, window.resolve_left⟩

theorem passes_burstOf_le (r : Bytes 64) : (burstOf r).passes ≤ 65535 := Nat.le_of_lt_succ (field 16 56 r).isLt

/-! ### A repeated list -/

/-- A function of the place modulo `m` repeats its first `m` values. -/
theorem map_mod_range_mul (f : Nat → Nat) (k m : Nat) :
    (List.range (k * m)).map (fun i => f (i % m)) = (List.replicate k ((List.range m).map f)).flatten := by
  induction k with
  | zero => simp
  | succ k ih =>
    rw [Nat.succ_mul, List.range_add, List.map_append, ih, List.replicate_succ', List.flatten_append,
      List.map_map]
    refine congrArg₂ (· ++ ·) rfl ((List.map_congr_left fun i hi => ?_).trans List.flatten_singleton.symm)
    simp [Nat.mod_eq_of_lt (List.mem_range.mp hi)]

namespace Burst

/-! ### The loop mode by its code (R178) -/

theorem loopMode_eq_none_iff (b : Burst) : b.loopMode = .none ↔ b.loopCode = 0 := by
  unfold loopMode
  split_ifs <;> simp_all

theorem hasPasses_eq_false_iff (b : Burst) : b.hasPasses = false ↔ b.loopCode = 0 ∨ b.passes = 0 := by
  simp [hasPasses, loopMode_eq_none_iff, imp_iff_not_or]

theorem loopMode_of_looping {b : Burst} (looping : b.loopCode ≠ 0) :
    b.loopMode = if b.loopCode = 1 then .wrap else .bounce := if_neg looping

theorem loopMode_ne_none_of_hasPasses {b : Burst} (h : b.hasPasses = true) : b.loopMode ≠ .none := by
  simpa using (Bool.and_eq_true_iff.mp h).1

/-! ### One pass (R76, R77) -/

theorem passLength_of_looping {b : Burst} (looping : b.loopCode ≠ 0) :
    b.passLength = if b.loopCode = 1 then b.loopEnd - b.loopStart + 1 else 2 * (b.loopEnd - b.loopStart) := by
  rw [passLength, loopMode_of_looping looping]
  split_ifs <;> rfl

theorem passList_of_looping {b : Burst} (looping : b.loopCode ≠ 0) :
    b.passList =
      if b.loopCode = 1 then List.range' b.loopStart (b.loopEnd - b.loopStart + 1)
      else (List.range' b.loopStart (b.loopEnd - b.loopStart)).reverse
        ++ List.range' (b.loopStart + 1) (b.loopEnd - b.loopStart) := by
  rw [passList, loopMode_of_looping looping]
  split_ifs <;> rfl

theorem map_passIndex_eq_passList {b : Burst} (fits : b.WindowFits) :
    (List.range b.passLength).map b.passIndex = b.passList := by
  cases mode : b.loopMode with
  | none => simp [passLength, passList, mode]
  | wrap =>
    simp only [passLength, passList, mode]
    rw [List.range'_eq_map_range]
    exact List.map_congr_left fun i _ => by simp [passIndex, mode]
  | bounce =>
    have order := (fits (by simp [mode])).1
    simp only [passLength, passList, mode]
    rw [Nat.two_mul, List.range_add, List.map_append, List.map_map, List.reverse_range', List.range'_eq_map_range]
    refine congrArg₂ (· ++ ·) (List.map_congr_left fun i down => ?_) (List.map_congr_left fun i _ => ?_)
    · have down := List.mem_range.mp down
      simp only [passIndex, mode, if_pos down]
      omega
    · simp [passIndex, mode]

/-! ### A play by its part of the sequence (R75) -/

theorem playIndex_leadIn {b : Burst} {i : Nat} (h : i < b.leadIn) : b.playIndex (i + 1) = i := if_pos h

theorem playIndex_pass {b : Burst} {i : Nat} (h : i < b.passes * b.passLength) :
    b.playIndex (b.leadIn + i + 1) = b.passIndex (i % b.passLength) := by
  have past : ¬ b.leadIn + i + 1 ≤ b.leadIn := by omega
  have place : b.leadIn + i + 1 - b.leadIn = i + 1 := by omega
  rw [playIndex, if_neg past, place, if_pos (show i + 1 ≤ _ from h), Nat.add_sub_cancel]

theorem playIndex_tail (b : Burst) (i : Nat) :
    b.playIndex (b.leadIn + b.passes * b.passLength + i + 1) = b.leadIn + i := by
  have past : ¬ b.leadIn + b.passes * b.passLength + i + 1 ≤ b.leadIn := by omega
  have beyond : ¬ b.leadIn + b.passes * b.passLength + i + 1 - b.leadIn ≤ b.passes * b.passLength := by omega
  rw [playIndex, if_neg past, if_neg beyond]
  omega

theorem map_playIndex_leadIn (b : Burst) :
    (List.range b.leadIn).map (fun i => b.playIndex (i + 1)) = List.range b.leadIn :=
  (List.map_congr_left fun _ place => playIndex_leadIn (List.mem_range.mp place)).trans (List.map_id _)

theorem map_playIndex_passes {b : Burst} (fits : b.WindowFits) :
    (List.range (b.passes * b.passLength)).map (fun i => b.playIndex (b.leadIn + i + 1)) =
      (List.replicate b.passes b.passList).flatten := by
  rw [← map_passIndex_eq_passList fits, ← map_mod_range_mul]
  exact List.map_congr_left fun _ place => playIndex_pass (List.mem_range.mp place)

theorem map_playIndex_tail (b : Burst) (m : Nat) :
    (List.range m).map (fun i => b.playIndex (b.leadIn + b.passes * b.passLength + i + 1)) =
      List.range' b.leadIn m := by
  simp only [playIndex_tail, List.range'_eq_map_range]

theorem sequenceLength_eq_of_hasPasses {b : Burst} (fits : b.WindowFits) (looped : b.hasPasses = true) :
    b.sequenceLength = b.leadIn + b.passes * b.passLength + (b.vectorCount - b.leadIn) := by
  have inside := (fits (loopMode_ne_none_of_hasPasses looped)).2
  simp only [sequenceLength, leadIn, looped, if_true]
  omega

theorem map_playIndex_eq_playSequence {b : Burst} (fits : b.WindowFits) :
    (List.range b.sequenceLength).map (fun j => b.playIndex (j + 1)) = b.playSequence := by
  cases looped : b.hasPasses with
  | false => simpa [playSequence, sequenceLength, leadIn, looped] using map_playIndex_leadIn b
  | true =>
    have start : b.leadIn = b.loopEnd + 1 := if_pos looped
    rw [sequenceLength_eq_of_hasPasses fits looped, List.range_add, List.range_add, List.map_append,
      List.map_append, List.map_map, List.map_map, map_playIndex_leadIn, playSequence, if_pos looped, ← start]
    exact congrArg₂ (· ++ ·) (congrArg₂ (· ++ ·) rfl (map_playIndex_passes fits)) (map_playIndex_tail b _)

/-! ### Every index is below N -/

theorem mem_passList_le {b : Burst} {v : Nat} (order : b.loopStart ≤ b.loopEnd) (h : v ∈ b.passList) :
    v ≤ b.loopEnd := by
  cases mode : b.loopMode with
  | none => simp [passList, mode] at h
  | wrap =>
    simp only [passList, mode, List.mem_range'_1] at h
    omega
  | bounce =>
    simp only [passList, mode, List.mem_append, List.mem_reverse, List.mem_range'_1] at h
    omega

theorem mem_playSequence_lt {b : Burst} {v : Nat} (fits : b.WindowFits) (h : v ∈ b.playSequence) :
    v < b.vectorCount := by
  cases looped : b.hasPasses with
  | false => simpa [playSequence, looped] using h
  | true =>
    obtain ⟨order, inside⟩ := fits (loopMode_ne_none_of_hasPasses looped)
    rw [playSequence, if_pos looped, List.mem_append, List.mem_append] at h
    obtain (leadIn | pass) | tail := h
    · have := List.mem_range.mp leadIn
      omega
    · obtain ⟨_, copy, member⟩ := List.mem_flatten.mp pass
      rw [List.eq_of_mem_replicate copy] at member
      exact (mem_passList_le order member).trans_lt inside
    · have := List.mem_range'_1.mp tail
      omega

theorem playIndex_lt {b : Burst} (fits : b.WindowFits) {j : Nat} (first : 1 ≤ j) (last : j ≤ b.sequenceLength) :
    b.playIndex j < b.vectorCount := by
  refine mem_playSequence_lt fits ?_
  rw [← map_playIndex_eq_playSequence fits]
  exact List.mem_map.mpr ⟨j - 1, List.mem_range.mpr (by omega), by rw [Nat.sub_add_cancel first]⟩

/-! ### The length (R79) -/

theorem passLength_le {b : Burst} (fits : b.WindowFits) (few : b.vectorCount ≤ 1024) : b.passLength ≤ 2046 := by
  cases mode : b.loopMode with
  | none => simp [passLength, mode]
  | wrap | bounce =>
    obtain ⟨_, inside⟩ := fits (by simp [mode])
    simp only [passLength, mode]
    omega

theorem vectorCount_le_sequenceLength (b : Burst) : b.vectorCount ≤ b.sequenceLength := by
  unfold sequenceLength
  split
  · exact Nat.le_add_right _ _
  · exact Nat.le_refl _

theorem sequenceLength_le {b : Burst} (fits : b.WindowFits) (few : b.vectorCount ≤ 1024)
    (passes : b.passes ≤ 65535) :
    b.sequenceLength ≤ 134085634 := by
  have plays : b.passes * b.passLength ≤ 65535 * 2046 := Nat.mul_le_mul passes (passLength_le fits few)
  unfold sequenceLength
  split
  · omega
  · exact few.trans (by decide)

/-! ### The sequence and its length by the record's loop code (R75 to R79) -/

theorem playSequence_eq_ite (b : Burst) :
    b.playSequence =
      if b.loopCode = 0 ∨ b.passes = 0 then List.range b.vectorCount
      else
        List.range (b.loopEnd + 1)
        ++ (List.replicate b.passes
            (if b.loopCode = 1 then List.range' b.loopStart (b.loopEnd - b.loopStart + 1)
            else (List.range' b.loopStart (b.loopEnd - b.loopStart)).reverse
              ++ List.range' (b.loopStart + 1) (b.loopEnd - b.loopStart))).flatten
        ++ List.range' (b.loopEnd + 1) (b.vectorCount - (b.loopEnd + 1)) := by
  split
  case isTrue once => simp [playSequence, (hasPasses_eq_false_iff b).mpr once]
  case isFalse again =>
    have looped := Bool.eq_true_of_not_eq_false (mt (hasPasses_eq_false_iff b).mp again)
    rw [playSequence, if_pos looped, passList_of_looping fun zero => again (.inl zero)]

theorem sequenceLength_eq_ite (b : Burst) :
    b.sequenceLength =
      if b.loopCode = 0 ∨ b.passes = 0 then b.vectorCount
      else if b.loopCode = 1 then b.vectorCount + b.passes * (b.loopEnd - b.loopStart + 1)
      else b.vectorCount + 2 * b.passes * (b.loopEnd - b.loopStart) := by
  split
  case isTrue once => simp [sequenceLength, (hasPasses_eq_false_iff b).mpr once]
  case isFalse again =>
    have looped := Bool.eq_true_of_not_eq_false (mt (hasPasses_eq_false_iff b).mp again)
    rw [sequenceLength, if_pos looped, passLength_of_looping fun zero => again (.inl zero)]
    split
    · rfl
    · rw [Nat.mul_left_comm, Nat.mul_assoc]

end Burst

/-- Settles O39: `playIndex` lists the model's `playSequence`, every member of which is below N. -/
theorem playSequenceIsLeadInPassesTail : Obligations.PlaySequenceIsLeadInPassesTail := by
  intro r valid
  obtain ⟨pos, few, fits⟩ := shape_of_burstValid valid
  exact ⟨(Burst.map_playIndex_eq_playSequence fits).trans (Burst.playSequence_eq_ite _),
    Burst.sequenceLength_eq_ite _,
    pos.trans (Burst.vectorCount_le_sequenceLength _),
    Burst.sequenceLength_le fits few (passes_burstOf_le r),
    fun _ => Burst.playIndex_lt fits⟩

end Sys2Proof.Machine
end

section
/-! The pace accumulator over a run of periods (R103 to R105). A period is long when the accumulator carries; over a
run the accumulator is k × F modulo 32 and its carries count floor(k × F / 32), so each period of the run is known in
closed form. -/

namespace Sys2Proof.Machine

/-! ### One step of the accumulator (R104) -/

theorem paceStep_mod_fst (n : Nat) {f : Nat} (hf : f ≤ 31) : (paceStep (n % 32) f).1 = (n + f) % 32 := by
  unfold paceStep
  split
  case isTrue carry => change n % 32 + f - 32 = (n + f) % 32; omega
  case isFalse fits => change n % 32 + f = (n + f) % 32; omega

theorem add_div_eq_add_paceStep (n : Nat) {f : Nat} (hf : f ≤ 31) :
    (n + f) / 32 = n / 32 + (paceStep (n % 32) f).2.toNat := by
  unfold paceStep
  split
  case isTrue carry => change (n + f) / 32 = n / 32 + 1; omega
  case isFalse fits => change (n + f) / 32 = n / 32 + 0; omega

/-- Whether the accumulator carries, making the period long, after `k` steps from 0 (R104). -/
def carriesAfter (f k : Nat) : Bool := (paceStep (k * f % 32) f).2

theorem succ_mul_div_eq_add_carriesAfter {f : Nat} (hf : f ≤ 31) (k : Nat) :
    (k + 1) * f / 32 = k * f / 32 + (carriesAfter f k).toNat := by
  rw [Nat.succ_mul]
  exact add_div_eq_add_paceStep _ hf

theorem length_filter_carriesAfter {f : Nat} (hf : f ≤ 31) (k : Nat) :
    ((List.range k).filter (carriesAfter f)).length = k * f / 32 := by
  induction k with
  | zero => simp
  | succ k ih =>
    rw [List.range_succ, List.filter_append, List.length_append, ih, succ_mul_div_eq_add_carriesAfter hf]
    cases carry : carriesAfter f k <;> simp [carry]

namespace Engine

/-! ### One period (R81, R104) -/

theorem periodLength_startPeriod (now : Tick) (e : Engine) :
    (e.startPeriod now).periodLength =
      BitVec.ofNat 48 (e.paceInteger.toNat + (paceStep e.accumulator e.paceFraction.toNat).2.toNat) := by
  rw [BitVec.ofNat_add, BitVec.ofNat_toNat]
  cases carry : (paceStep e.accumulator e.paceFraction.toNat).2 <;> simp [startPeriod, carry]

/-! ### A run of periods at one pace (R105) -/

/-- The period after `e`'s, beginning where that one ends. -/
def nextPeriod (e : Engine) : Engine :=
  Engine.startPeriod (e.periodStart + e.periodLength) { e with period := e.period + 1 }

theorem nextPeriod_startPeriod (now : Tick) (e : Engine) :
    (e.startPeriod now).nextPeriod =
      Engine.startPeriod
        (now + BitVec.ofNat 48 (e.paceInteger.toNat + (paceStep e.accumulator e.paceFraction.toNat).2.toNat))
        { e with period := e.period + 1, accumulator := (paceStep e.accumulator e.paceFraction.toNat).1 } := by
  rw [← periodLength_startPeriod now]
  rfl

/-- Period `k + 1` of the run of `e`'s pace that begins at `t0`. -/
def runPeriod (e : Engine) (t0 : Tick) (k : Nat) : Engine := Nat.repeat nextPeriod k (e.startPeriod t0)

theorem runPeriod_succ (e : Engine) (t0 : Tick) (k : Nat) :
    e.runPeriod t0 (k + 1) = (e.runPeriod t0 k).nextPeriod := rfl

/-- R105's distance of period `k + 1` from the run's first period start. -/
def runOffset (e : Engine) (k : Nat) : Nat := k * e.paceInteger.toNat + k * e.paceFraction.toNat / 32

theorem runOffset_add_thirtyTwo (e : Engine) (k : Nat) :
    e.runOffset (k + 32) = e.runOffset k + (32 * e.paceInteger.toNat + e.paceFraction.toNat) := by
  simp only [runOffset, Nat.add_mul]
  omega

section
variable {e : Engine} (fraction : e.paceFraction.toNat ≤ 31)
include fraction

theorem runOffset_succ (k : Nat) :
    e.runOffset (k + 1) = e.runOffset k + (e.paceInteger.toNat + (carriesAfter e.paceFraction.toNat k).toNat) := by
  rw [runOffset, runOffset, succ_mul_div_eq_add_carriesAfter fraction, Nat.succ_mul]
  omega

variable (fresh : e.accumulator = 0)
include fresh

theorem runPeriod_eq (t0 : Tick) (k : Nat) :
    e.runPeriod t0 k = Engine.startPeriod (t0 + BitVec.ofNat 48 (e.runOffset k))
      { e with period := e.period + k, accumulator := k * e.paceFraction.toNat % 32 } := by
  induction k with
  | zero =>
    have unchanged : { e with accumulator := 0 } = e := by rw [← fresh]
    simp [runPeriod, Nat.repeat, runOffset, unchanged]
  | succ k ih =>
    have accumulator := paceStep_mod_fst (k * e.paceFraction.toNat) fraction
    rw [← Nat.succ_mul] at accumulator
    rw [runPeriod_succ, ih, nextPeriod_startPeriod, runOffset_succ fraction, BitVec.ofNat_add (x := e.runOffset k),
      ← BitVec.add_assoc, ← accumulator]
    rfl

theorem periodStart_runPeriod (t0 : Tick) (k : Nat) :
    (e.runPeriod t0 k).periodStart = t0 + BitVec.ofNat 48 (e.runOffset k) := by
  rw [runPeriod_eq fraction fresh]
  rfl

theorem accumulator_runPeriod (t0 : Tick) (k : Nat) :
    (e.runPeriod t0 k).accumulator = (k + 1) * e.paceFraction.toNat % 32 := by
  rw [runPeriod_eq fraction fresh, Nat.succ_mul]
  exact paceStep_mod_fst _ fraction

theorem periodLength_runPeriod (t0 : Tick) (k : Nat) :
    (e.runPeriod t0 k).periodLength =
      BitVec.ofNat 48 (e.paceInteger.toNat + (carriesAfter e.paceFraction.toNat k).toNat) := by
  rw [runPeriod_eq fraction fresh]
  exact periodLength_startPeriod _ _

theorem strobeTick_runPeriod (b : Burst) (t0 : Tick) (k : Nat) :
    strobeTick b (e.runPeriod t0 k) = t0 + BitVec.ofNat 48 (e.runOffset k + b.strobeOffset.toNat) := by
  rw [strobeTick, periodStart_runPeriod fraction fresh, BitVec.ofNat_add, BitVec.ofNat_toNat, BitVec.add_assoc]

theorem runPeriod_long (t0 : Tick) (k : Nat) :
    ((e.runPeriod t0 k).periodLength == BitVec.ofNat 48 (e.paceInteger.toNat + 1)) =
      carriesAfter e.paceFraction.toNat k := by
  rw [periodLength_runPeriod fraction fresh]
  have small := e.paceInteger.isLt
  cases carriesAfter e.paceFraction.toNat k with
  | false =>
    rw [beq_eq_false_iff_ne]
    intro same
    have := congrArg BitVec.toNat same
    simp only [BitVec.toNat_ofNat, Bool.toNat_false] at this
    omega
  | true => exact beq_self_eq_true _

end

end Engine

/-- Settles O41: period k+1 of the run is known in closed form (`Engine.runPeriod_eq`), and the carries of the
accumulator count its long periods. -/
theorem paceSpreadsLongPeriods : Obligations.PaceSpreadsLongPeriods := by
  intro b e t0 fresh fraction next period i f k
  have start := Engine.periodStart_runPeriod fraction fresh t0
  have length := Engine.periodLength_runPeriod fraction fresh t0 k
  refine ⟨start k, Engine.strobeTick_runPeriod fraction fresh b t0 k, Engine.accumulator_runPeriod fraction fresh t0 k,
    ?_, ?_, ?_⟩
  · cases carry : carriesAfter e.paceFraction.toNat k with
    | false => exact .inl (by rwa [carry] at length)
    | true => exact .inr (by rwa [carry] at length)
  · rw [← length_filter_carriesAfter fraction k]
    exact congrArg _ (List.filter_congr fun j _ => Engine.runPeriod_long fraction fresh t0 j)
  · calc (e.runPeriod t0 (k + 32)).periodStart
      _ = t0 + BitVec.ofNat 48 (e.runOffset k + (32 * i + f)) := by rw [start, Engine.runOffset_add_thirtyTwo]
      _ = (e.runPeriod t0 k).periodStart + BitVec.ofNat 48 (32 * i + f) := by
        rw [start, BitVec.ofNat_add, BitVec.add_assoc]

end Sys2Proof.Machine
end

section
/-! The due test (R100): a time is due from its own tick for half the timebase, and not for the half before it. -/

namespace Sys2Proof.Machine

theorem due_iff_sub_toNat_lt (time now : Tick) : due time now = true ↔ (now - time).toNat < 2 ^ 47 :=
  decide_eq_true_iff

theorem due_add_ofNat {k : Nat} (time : Tick) (near : k < 2 ^ 47) : due time (time + BitVec.ofNat 48 k) = true := by
  rw [due_iff_sub_toNat_lt, add_sub_cancel_left, BitVec.toNat_ofNat]
  exact (Nat.mod_le _ _).trans_lt near

theorem due_self (time : Tick) : due time time = true := by
  rw [due_iff_sub_toNat_lt, BitVec.sub_self]
  decide

theorem not_due_sub_ofNat {k : Nat} (time : Tick) (pos : 1 ≤ k) (near : k ≤ 2 ^ 47) :
    due time (time - BitVec.ofNat 48 k) = false := by
  have ahead : (time - BitVec.ofNat 48 k - time).toNat = 2 ^ 48 - k := by
    simp only [BitVec.toNat_sub, BitVec.toNat_ofNat]
    omega
  rw [← Bool.not_eq_true, due_iff_sub_toNat_lt, ahead]
  omega

/-- A time that is not due is at most half the timebase ahead. -/
theorem sub_toNat_le_of_not_due {time now : Tick} (h : due time now = false) : (time - now).toNat ≤ 2 ^ 47 := by
  have behind := mt (due_iff_sub_toNat_lt time now).mpr (Bool.not_eq_true _ ▸ h)
  rw [BitVec.toNat_sub] at behind ⊢
  omega

/-- Settles O42: a tick before a time that is not due is that time less what is left, which is at most half the
timebase. -/
theorem dueTestCoversHalfTheTimebase : Obligations.DueTestCoversHalfTheTimebase := by
  refine ⟨fun time now => ?_, fun time _ => due_add_ofNat time, fun time _ => not_due_sub_ofNat time,
    fun time now early => ⟨(time - now).toNat, ?_, due_self time, fun j before => ?_⟩⟩
  · have small := time.isLt
    rw [due_iff_sub_toNat_lt, BitVec.toNat_sub]
    omega
  · rw [BitVec.ofNat_toNat, BitVec.setWidth_eq, BitVec.add_comm, BitVec.sub_add_cancel]
  · have half := sub_toNat_le_of_not_due early
    have rest : now + BitVec.ofNat 48 j = time - BitVec.ofNat 48 ((time - now).toNat - j) := by
      bv_omega
    rw [rest]
    exact not_due_sub_ofNat time (by omega) (by omega)

end Sys2Proof.Machine
end

section
/-! ACKNOWLEDGE of the two rings the part writes (R124, R160, R164). The rings differ only in where the state
keeps them, so their meaning is said once, by `acknowledgeRing`; of the Host Port's requesters it can let the
ring's own writer alone present. -/

namespace Sys2Proof.Machine

/-! ### Requesters that go on not presenting (R163) -/

/-- What presents depends on the register window through the device state alone. -/
theorem PortQuiet.withWindow {s : State} (quiet : PortQuiet s) {w : Window} (same : w.device = s.window.device) :
    PortQuiet { s with window := w } := by
  have on : ({ s with window := w } : State).on = s.on := congrArg (· == DeviceState.on) same
  have lanes (l : LaneId) : eligible { s with window := w } l = eligible s l :=
    congrArg (· && (s.lane l).eligible) on
  have unchanged (r : Requester) : presents { s with window := w } r = presents s r := by
    cases r with
    | fetch => exact congrArg allLanes.any (funext lanes)
    | loader l => exact congrArg (· && (s.lane l).staging.any Entry.wantsRead) on
    | completion => exact congrArg (s.completionRing.ready · s.post.items.isEmpty) on
    | capture => exact congrArg (s.captureRing.ready · s.capture.fifo.isEmpty) on
  exact fun r hr => (unchanged r).trans (quiet r hr)

theorem portQuiet_of_nobody_in_turnOrder {s : State} {last : Requester}
    (nobody : (turnOrder last).find? (presents s) = none) : PortQuiet s := by
  intro r hr
  have turn : r ∈ turnOrder last := by
    rwa [turnOrder, List.mem_append, or_comm, ← List.mem_append, List.take_append_drop]
  simpa using List.find?_eq_none.mp nobody r turn

/-- The completion ring, the interrupt state and the port's bus and round-robin concern the ring's own writer alone. -/
theorem presents_withCompletionRing {r : Requester} (other : r ≠ .completion) (s : State) (x : RingWriter)
    (i : Interrupt) (p : HostPort) :
    presents { s with completionRing := x, interrupt := i, port := p } r = presents s r := by
  cases r with
  | completion => exact absurd rfl other
  | fetch => rfl
  | loader => rfl
  | capture => rfl

/-- The capture ring, the interrupt state and the port's bus and round-robin concern the ring's own writer alone. -/
theorem presents_withCaptureRing {r : Requester} (other : r ≠ .capture) (s : State) (x : RingWriter)
    (i : Interrupt) (p : HostPort) :
    presents { s with captureRing := x, interrupt := i, port := p } r = presents s r := by
  cases r with
  | capture => exact absurd rfl other
  | fetch => rfl
  | loader => rfl
  | completion => rfl

theorem presents_issueTurn_completion (s : State) (r : Requester) :
    presents (issueTurn .completion s) r = if r = .completion then false else presents s r := by
  obtain rfl | other := eq_or_ne r .completion
  · rw [if_pos rfl, issueTurn, issueCompletion]
    split
    case h_1 empty => simp [presents, RingWriter.ready, empty]
    case h_2 => simp [presents, RingWriter.ready]
  · rw [if_neg other, issueTurn, issueCompletion]
    split <;> exact presents_withCompletionRing other s _ _ _

theorem presents_issueTurn_capture (s : State) (r : Requester) :
    presents (issueTurn .capture s) r = if r = .capture then false else presents s r := by
  obtain rfl | other := eq_or_ne r .capture
  · rw [if_pos rfl, issueTurn, issueCapture]
    split
    case h_1 empty => simp [presents, RingWriter.ready, empty]
    case h_2 => simp [presents, RingWriter.ready]
  · rw [if_neg other, issueTurn, issueCapture]
    split <;> exact presents_withCaptureRing other s _ _ _

/-- A writer's turn puts its write in flight, and then it presents no more; no other requester is concerned. -/
theorem presents_issueTurn_writer {writer : Requester} (h : writer = .completion ∨ writer = .capture) (s : State)
    (r : Requester) : presents (issueTurn writer s) r = if r = writer then false else presents s r := by
  obtain rfl | rfl := h
  · exact presents_issueTurn_completion s r
  · exact presents_issueTurn_capture s r

/-- Where a writer alone may present, its one turn leaves nothing presenting. -/
theorem portQuiet_hostPort_of_writer {writer : Requester} (h : writer = .completion ∨ writer = .capture) {s : State}
    (others : ∀ r ∈ requesters, r ≠ writer → presents s r = false) : PortQuiet (hostPort s) := by
  have served : PortQuiet (issueTurn writer s) := fun r hr => by
    rw [presents_issueTurn_writer h]
    split
    case isTrue => rfl
    case isFalse other => exact others r hr other
  rw [hostPort, Nat.add_comm, turns]
  split
  case h_1 nobody => exact portQuiet_of_nobody_in_turnOrder nobody
  case h_2 r found =>
    have asking : presents s r = true := List.find?_some found
    have only : r = writer := by
      by_contra other
      have mem := mem_requesters_of_mem_turnOrder (List.mem_of_find?_eq_some found)
      exact absurd asking (by simp [others r mem other])
    rwa [only, turns_of_portQuiet served]

/-! ### The range of an accepted head (R124, R160) -/

/-- `k` slots on from `a` is `b` exactly when `b` lies `k` slots ahead of `a`. -/
theorem add_mod_eq_iff_ahead {n a b k : Nat} (ha : a < n) (hb : b < n) (hk : k < n) :
    (a + k) % n = b ↔ (b + n - a) % n = k := by
  constructor
  · rintro rfl
    obtain inside | wraps := Nat.lt_or_ge (a + k) n
    · rw [Nat.mod_eq_of_lt inside, show a + k + n - a = k + n by omega, Nat.add_mod_right, Nat.mod_eq_of_lt hk]
    · have back : (a + k) % n = a + k - n := by rw [Nat.mod_eq_sub_mod wraps, Nat.mod_eq_of_lt (by omega)]
      rw [back, show a + k - n + n - a = k by omega, Nat.mod_eq_of_lt hk]
  · rintro rfl
    rw [Nat.add_mod_mod, show a + (b + n - a) = b + n by omega, Nat.add_mod_right, Nat.mod_eq_of_lt hb]

theorem RingWriter.head_lt_entries {r : RingWriter} : r.sound → r.head < r.entries :=
  fun ⟨_, _, head_lt, _⟩ => head_lt

theorem RingWriter.fill_lt_entries {r : RingWriter} (sound : r.sound) : r.fill < r.entries :=
  Nat.mod_lt _ (Nat.zero_lt_of_lt (r.head_lt_entries sound))

/-- A sound ring accepts the slots from its head to its producer index. -/
theorem RingWriter.accepts_iff {r : RingWriter} (sound : r.sound) (head : Nat) :
    r.accepts head = true ↔ ∃ k ≤ r.fill, head = (r.head + k) % r.entries := by
  have fill_lt := r.fill_lt_entries sound
  have head_lt := r.head_lt_entries sound
  simp only [RingWriter.accepts, Bool.and_eq_true, decide_eq_true_iff]
  constructor
  · rintro ⟨inside, near⟩
    exact ⟨_, near, ((add_mod_eq_iff_ahead head_lt inside (near.trans_lt fill_lt)).mpr rfl).symm⟩
  · rintro ⟨k, near, rfl⟩
    have inside : (r.head + k) % r.entries < r.entries := Nat.mod_lt _ (Nat.zero_lt_of_lt head_lt)
    exact ⟨inside, ((add_mod_eq_iff_ahead head_lt inside (near.trans_lt fill_lt)).mp rfl).trans_le near⟩

theorem RingWriter.accepts_head {r : RingWriter} (sound : r.sound) : r.accepts r.head = true :=
  (r.accepts_iff sound _).mpr ⟨0, Nat.zero_le _, (Nat.mod_eq_of_lt (r.head_lt_entries sound)).symm⟩

/-! ### The holdoff timer (R164) -/

theorem RingInterrupt.acknowledged_eq (holdoff : Half) (now : Tick) (fill : Nat) (i : RingInterrupt) :
    i.acknowledged holdoff now fill = { i with
      expired := false
      timer := if fill = 0 ∨ holdoff = 0 then none else some (now + 100 * holdoff.setWidth 48) } := by
  rw [RingInterrupt.acknowledged, holdoffFrom, Config.ticksPerMicrosecond, BitVec.mul_comm]
  by_cases empty : fill = 0 <;> simp [empty]

/-! ### The meaning of both rings' ACKNOWLEDGE -/

theorem exec_acknowledge_of_not_on {s : State} (head : BitVec 12) (off : s.window.device ≠ .on) :
    exec (.acknowledgeCompletion head) s = finishState (setRefused s)
      ∧ exec (.acknowledgeCapture head) s = finishState (setRefused s) :=
  ⟨if_neg off, if_neg off⟩

/-- What an ACKNOWLEDGE in ON does to the ring `r` with the interrupt state `i`, where `moved` puts a ring and its
interrupt state in the place that the state has for them. -/
def acknowledgeRing (head : Nat) (r : RingWriter) (i : RingInterrupt) (moved : RingWriter → RingInterrupt → State)
    (s : State) : State :=
  if r.accepts head then
    if head = r.head then s
    else moved { r with head := head }
      (i.acknowledged s.interrupt.holdoff s.timebase ({ r with head := head } : RingWriter).fill)
  else setIndexError s

theorem exec_acknowledgeCompletion_of_on {s : State} (head : BitVec 12) (on : s.window.device = .on) :
    exec (.acknowledgeCompletion head) s =
      finishState (acknowledgeRing head.toNat s.completionRing s.interrupt.completion
        (fun x y => { s with completionRing := x, interrupt := { s.interrupt with completion := y } }) s) :=
  (if_pos on).trans (apply_ite finishState _ _ _).symm

theorem exec_acknowledgeCapture_of_on {s : State} (head : BitVec 12) (on : s.window.device = .on) :
    exec (.acknowledgeCapture head) s =
      finishState (acknowledgeRing head.toNat s.captureRing s.interrupt.capture
        (fun x y => { s with captureRing := x, interrupt := { s.interrupt with capture := y } }) s) :=
  (if_pos on).trans (apply_ite finishState _ _ _).symm

/-- Settles O18. Each ring's ACKNOWLEDGE in ON is `acknowledgeRing`, and its ring's writer alone may present after
it; the clauses are the branches of `acknowledgeRing`, with the range read by `RingWriter.accepts_iff`. -/
theorem acknowledgeMovesHeads : Obligations.AcknowledgeMovesHeads := by
  intro head s quiet
  refine ⟨fun off => ?_, fun c r i moved on sound which => ?_⟩
  · have refused : finishState (setRefused s) = .next (setRefused s) :=
      finishState_of_portQuiet (quiet.withWindow rfl)
    obtain ⟨completion, capture⟩ := exec_acknowledge_of_not_on head off
    exact ⟨completion.trans refused, capture.trans refused⟩
  · obtain ⟨meaning, writer, isWriter, others⟩ :
        exec c s = finishState (acknowledgeRing head.toNat r i moved s)
          ∧ ∃ writer, (writer = .completion ∨ writer = .capture)
            ∧ ∀ x y, ∀ p ∈ requesters, p ≠ writer → presents (moved x y) p = false := by
      obtain ⟨rfl, rfl, rfl, place⟩ | ⟨rfl, rfl, rfl, place⟩ := which
      · obtain rfl := funext₂ place
        exact ⟨exec_acknowledgeCompletion_of_on head on, .completion, .inl rfl, fun x y p hp other =>
          (presents_withCompletionRing other s x _ s.port).trans (quiet p hp)⟩
      · obtain rfl := funext₂ place
        exact ⟨exec_acknowledgeCapture_of_on head on, .capture, .inr rfl, fun x y p hp other =>
          (presents_withCaptureRing other s x _ s.port).trans (quiet p hp)⟩
    refine ⟨fun outside => ?_, fun same => ?_, fun inside differs => ?_⟩
    · rw [meaning, acknowledgeRing, if_neg (mt (r.accepts_iff sound _).mp outside)]
      exact finishState_of_portQuiet (quiet.withWindow rfl)
    · rw [meaning, acknowledgeRing, same, if_pos (r.accepts_head sound), if_pos rfl]
      exact finishState_of_portQuiet quiet
    · rw [acknowledgeRing, if_pos ((r.accepts_iff sound _).mpr inside), if_neg differs,
        RingInterrupt.acknowledged_eq] at meaning
      exact ⟨_, meaning, portQuiet_hostPort_of_writer isWriter (others _ _), hostPort_frame _⟩

end Sys2Proof.Machine
end

section
/-! The TRIP record of a firing (R133, R134). The three answers of `recordFiring` are said once each, by what the
set's slot holds; the completion of the write of a set's record takes the record off the queue and places the
carry, and the Host Port's turns then move neither the queue nor the sets. -/

namespace Sys2Proof.Machine

/-! ### The slot and the count -/

theorem slotTaken_iff (i : SetId) (q : PostQueue) : slotTaken i q = true ↔ ∃ x ∈ q.items, x.source = .trip i := by
  simp [slotTaken]

theorem slotInWriting_iff (i : SetId) (s : State) :
    slotInWriting i s = true ↔
      s.completionRing.writing ≠ none ∧ ∃ x rest, s.post.items = x :: rest ∧ x.source = .trip i := by
  cases queue : s.post.items <;> simp [slotInWriting, queue, Option.isSome_iff_ne_none]

theorem countUp_eq_min (n : Half) : countUp n = BitVec.ofNat 16 (min (n.toNat + 1) 65535) := by
  rw [countUp]
  split
  case isTrue full => subst full; rfl
  case isFalse notFull =>
    have room : n.toNat ≠ 65535 := fun h => notFull (BitVec.eq_of_toNat_eq h)
    bv_omega

theorem mergeCarry_eq (lanes : LaneMask) (now : Tick) (carry : Option Carry) :
    mergeCarry lanes now carry = match carry with
      | none => ⟨1, lanes, now, now⟩
      | some k => ⟨BitVec.ofNat 16 (min (k.count.toNat + 1) 65535), k.lanes ||| lanes, k.first, now⟩ := by
  cases carry with
  | none => rfl
  | some k => rw [mergeCarry, countUp_eq_min]

/-! ### A firing, by what the set's slot holds (R133, R134) -/

theorem recordFiring_of_empty {i : SetId} {s : State} (empty : ¬ ∃ x ∈ s.post.items, x.source = .trip i)
    (lanes : LaneMask) :
    recordFiring i lanes s = postRecord (.trip i) (tripCompletion i lanes 1 s.timebase s.timebase) s :=
  if_neg (mt (slotTaken_iff i s.post).mp empty)

theorem recordFiring_of_inWriting {i : SetId} {s : State} (inWriting : slotInWriting i s = true)
    (lanes : LaneMask) :
    recordFiring i lanes s =
      s.setTrip i { s.trip i with carry := some (mergeCarry lanes s.timebase (s.trip i).carry) } := by
  obtain ⟨-, x, rest, queue, source⟩ := (slotInWriting_iff i s).mp inWriting
  have taken : slotTaken i s.post = true := (slotTaken_iff i s.post).mpr ⟨x, by simp [queue], source⟩
  rw [recordFiring, if_pos taken, if_pos inWriting]

theorem map_ite_of_only {α : Type} {p : α → Prop} [DecidablePred p] {before after : List α} {x : α} (f : α → α)
    (only : p x) (others : ∀ y ∈ before ++ after, ¬ p y) :
    (before ++ x :: after).map (fun y => if p y then f y else y) = before ++ f x :: after := by
  have keep {ys : List α} (sub : ys ⊆ before ++ after) : ys.map (fun y => if p y then f y else y) = ys :=
    (List.map_congr_left fun y hy => if_neg (others y (sub hy))).trans (List.map_id' ys)
  rw [List.map_append, List.map_cons, if_pos only, keep (List.subset_append_left _ _),
    keep (List.subset_append_right _ _)]

theorem recordFiring_of_queued {i : SetId} {s : State} {before after : List PostItem} {c : Completion}
    (queue : s.post.items = before ++ ⟨.trip i, c⟩ :: after)
    (others : ∀ x ∈ before ++ after, x.source ≠ .trip i) (notInWriting : slotInWriting i s = false)
    (lanes : LaneMask) :
    recordFiring i lanes s = { s with post := { s.post with
      items := before ++ ⟨.trip i, c.mergeTrip lanes s.timebase⟩ :: after } } := by
  have taken : slotTaken i s.post = true := (slotTaken_iff i s.post).mpr ⟨⟨.trip i, c⟩, by simp [queue], rfl⟩
  have merged := map_ite_of_only (p := fun x : PostItem => x.source = .trip i) (x := ⟨.trip i, c⟩)
    (fun x => { x with record := x.record.mergeTrip lanes s.timebase }) rfl others
  rw [recordFiring, if_pos taken, notInWriting, if_neg Bool.false_ne_true, queue, merged]

theorem Completion.mergeTrip_of_trip {c : Completion} {old : LaneMask} {i : SetId} {count : Half}
    (detail : c.detail = .trip old i count) (lanes : LaneMask) (now : Tick) :
    c.mergeTrip lanes now = { c with
      endTime := now, detail := .trip (old ||| lanes) i (BitVec.ofNat 16 (min (count.toNat + 1) 65535)) } := by
  rw [Completion.mergeTrip, detail, ← countUp_eq_min]

/-! ### The write of a set's record ends (R134, R159, R161) -/

@[simp] theorem postRecord_items (p : PostSource) (c : Completion) (s : State) :
    (postRecord p c s).post.items = s.post.items ++ [⟨p, c⟩] := rfl

@[simp] theorem postRecord_trip (p : PostSource) (c : Completion) (s : State) (j : SetId) :
    (postRecord p c s).trip j = s.trip j := rfl

@[simp] theorem hostPort_timebase (s : State) : (hostPort s).timebase = s.timebase := (hostPort_frame s).timebase

@[simp] theorem hostPort_post (s : State) : (hostPort s).post = s.post := (hostPort_frame s).post

@[simp] theorem hostPort_trip (s : State) (j : SetId) : (hostPort s).trip j = s.trip j :=
  congrArg (·.get j) (hostPort_frame s).trips

/-- The completion ring's write `op` is done and its record has left the Post Queue, of which `rest` remains; the
place it had there is not yet used again (R159). -/
def headWritten (op : OpId) (rest : List PostItem) (s : State) : State :=
  completionWritten (returnOp op { s with post := { s.post with items := rest } })

@[simp] theorem headWritten_timebase (op : OpId) (rest : List PostItem) (s : State) :
    (headWritten op rest s).timebase = s.timebase := rfl

@[simp] theorem headWritten_items (op : OpId) (rest : List PostItem) (s : State) :
    (headWritten op rest s).post.items = rest := rfl

@[simp] theorem headWritten_trip (op : OpId) (rest : List PostItem) (s : State) (j : SetId) :
    (headWritten op rest s).trip j = s.trip j := rfl

theorem placeCarry_of_none {i : SetId} {s : State} (carry : (s.trip i).carry = none) : placeCarry i s = s := by
  rw [placeCarry, carry]

theorem placeCarry_of_some {i : SetId} {s : State} {k : Carry} (carry : (s.trip i).carry = some k) :
    placeCarry i s = postRecord (.trip i) (tripCompletion i k.lanes k.count k.first k.last)
      (s.setTrip i { s.trip i with carry := none }) := by
  rw [placeCarry, carry]

@[simp] theorem deviceFault_post (cause : FaultCause) (s : State) : (deviceFault cause s).post = ⟨[], []⟩ := rfl

@[simp] theorem deviceFault_trip (cause : FaultCause) (s : State) (j : SetId) :
    (deviceFault cause s).trip j = { s.trip j with armed := false, carry := none } := mapTable_get _ s.trips j

section
variable {i : SetId} {op : OpId} {c : Completion} {rest : List PostItem} {s : State}
  (writing : s.completionRing.writing = some op) (queue : s.post.items = ⟨.trip i, c⟩ :: rest)
include writing queue

theorem slotInWriting_of_head : slotInWriting i s = true :=
  (slotInWriting_iff i s).mpr ⟨by simp [writing], _, _, queue, rfl⟩

theorem exec_completionWriteDone_of_trip :
    exec .completionWriteDone s = .next (hostPort (placeCarry i (headWritten op rest s))) := by
  have done : completionDone s = (placeCarry i (headWritten op rest s), []) := by
    rw [completionDone, writing, queue]
    rfl
  calc exec .completionWriteDone s
    _ = finish (completionDone s) := rfl
    _ = .next (hostPort (placeCarry i (headWritten op rest s))) := by rw [done, finish, settle_nil]

theorem completionWriteDone_places_carry {k : Carry} (carry : (s.trip i).carry = some k) :
    ∃ v, exec .completionWriteDone s = .next v
      ∧ v.post.items = rest ++ [⟨.trip i, tripCompletion i k.lanes k.count k.first k.last⟩]
      ∧ (v.trip i).carry = none := by
  refine ⟨_, exec_completionWriteDone_of_trip writing queue, ?_⟩
  rw [placeCarry_of_some (s := headWritten op rest s) carry]
  simp

theorem completionWriteDone_frees_slot (carry : (s.trip i).carry = none) :
    ∃ v, exec .completionWriteDone s = .next v ∧ v.timebase = s.timebase ∧ v.post.items = rest
      ∧ v.trip i = s.trip i := by
  refine ⟨_, exec_completionWriteDone_of_trip writing queue, ?_⟩
  rw [placeCarry_of_none (s := headWritten op rest s) carry]
  simp

end

theorem completionWriteError_drops_records {op : OpId} {s : State} (writing : s.completionRing.writing = some op) :
    ∃ v, exec .completionWriteError s = .next v ∧ v.post.items = [] ∧ ∀ j, (v.trip j).carry = none := by
  have meaning : exec .completionWriteError s = finishState (deviceFault .completionWrite (returnOp op s)) := by
    change execCompletionWriteError s = _
    rw [execCompletionWriteError, writing]
  refine ⟨_, meaning, ?_⟩
  simp

/-- Settles O46, from the three answers of `recordFiring` and the two endings of the write. On one tick, the firing
first makes a carry that the end of the write places, and the firing second finds the slot free. -/
theorem tripRecordsArePlacedMergedOrCarried : Obligations.TripRecordsArePlacedMergedOrCarried := by
  intro i lanes s
  refine ⟨fun empty => recordFiring_of_empty empty lanes,
    fun before after c old count queue detail others notInWriting => ?_, fun _ inWriting => ?_,
    fun op c rest writing queue => ⟨fun k carry => completionWriteDone_places_carry writing queue carry,
      fun _ => completionWriteError_drops_records writing, fun carry others => ⟨?_, ?_⟩⟩⟩
  · have still := Bool.eq_false_iff.mpr (mt (slotInWriting_iff i s).mp notInWriting)
    rw [recordFiring_of_queued queue others still, Completion.mergeTrip_of_trip detail]
  · rw [recordFiring_of_inWriting ((slotInWriting_iff i s).mpr inWriting), mergeCarry_eq]
    exact ⟨rfl, fun j other => (State.trip_setTrip s i j _).trans (if_neg other.symm),
      (State.trip_setTrip s i i _).trans (if_pos rfl)⟩
  · rw [recordFiring_of_inWriting (slotInWriting_of_head writing queue)]
    refine completionWriteDone_places_carry (s := s.setTrip i _) (k := ⟨1, lanes, s.timebase, s.timebase⟩)
      writing queue ?_
    rw [State.trip_setTrip, if_pos rfl, carry]
    rfl
  · obtain ⟨v, meaning, sameTick, left, sameSet⟩ := completionWriteDone_frees_slot writing queue carry
    have empty : ¬ ∃ x ∈ v.post.items, x.source = .trip i := fun ⟨x, hx, source⟩ => others x (left ▸ hx) source
    refine ⟨v, meaning, ?_⟩
    rw [recordFiring_of_empty empty, sameTick]
    exact ⟨congrArg (· ++ _) left, (congrArg TripSet.carry sameSet).trans carry⟩

end Sys2Proof.Machine
end

section
/-! The formats and the checks of submission records (R147, R148, R177, R178). A field is tied to the bytes of its
record bit by bit, a range of zero bytes to each of its bytes; the rows of R147 are the conjuncts of `burstValid`,
with the start and loop modes read as their codes. -/

namespace Sys2Proof.Machine

/-! ### Fields and zero bytes (R177) -/

theorem testBit_leValue (bs : List Byte) (k : Nat) :
    (leValue bs).testBit k = (bs.getD (k / 8) 0).getLsbD (k % 8) := by
  induction bs generalizing k with
  | nil => simp [leValue]
  | cons b bs ih =>
    have split_byte : leValue (b :: bs) = 2 ^ 8 * leValue bs + b.toNat := Nat.add_comm _ _
    rw [split_byte, Nat.testBit_two_pow_mul_add _ b.isLt]
    obtain inByte | beyond := Nat.lt_or_ge k 8
    · rw [if_pos inByte, Nat.div_eq_of_lt inByte, Nat.mod_eq_of_lt inByte]
      rfl
    · obtain ⟨j, rfl⟩ := Nat.exists_eq_add_of_le' beyond
      rw [if_neg (Nat.not_lt_of_le beyond), Nat.add_sub_cancel, ih, Nat.add_div_right _ (by decide), Nat.add_mod_right]
      rfl

theorem byteRange_getElem? {n : Nat} (off size i : Nat) (d : Bytes n) :
    (byteRange off size d)[i]? = if i < size then d.toList[off + i]? else none := by
  rw [byteRange, List.getElem?_take, List.getElem?_drop]

theorem getLsbD_field {n w off k : Nat} (d : Bytes n) (h : off + k / 8 < n) (whole : w % 8 = 0) (hk : k < w) :
    (field w off d).getLsbD k = (d.get ⟨off + k / 8, h⟩).getLsbD (k % 8) := by
  have byte : (byteRange off (w / 8) d).getD (k / 8) 0 = d.get ⟨off + k / 8, h⟩ := by
    rw [List.getD_eq_getElem?_getD, byteRange_getElem?, if_pos (by omega)]
    simp [h, Vector.get_eq_getElem]
  rw [field, BitVec.getLsbD_ofNat, testBit_leValue, byte]
  simp [hk]

theorem mem_byteRange_iff {n off size : Nat} {d : Bytes n} {b : Byte} :
    b ∈ byteRange off size d ↔ ∃ j : Fin n, off ≤ j.val ∧ j.val < off + size ∧ d.get j = b := by
  rw [List.mem_iff_getElem?]
  constructor
  · rintro ⟨i, found⟩
    rw [byteRange_getElem?] at found
    split at found
    case isTrue inRange =>
      obtain ⟨hlt, rfl⟩ := List.getElem?_eq_some_iff.mp found
      exact ⟨⟨off + i, by simpa using hlt⟩, Nat.le_add_right _ _, Nat.add_lt_add_left inRange _,
        by simp [Vector.get_eq_getElem]⟩
    case isFalse => cases found
  · rintro ⟨j, low, high, rfl⟩
    refine ⟨j.val - off, ?_⟩
    rw [byteRange_getElem?, if_pos (by omega), Nat.add_sub_cancel' low]
    simp [Vector.get_eq_getElem]

theorem zeroBytes_iff {n : Nat} (off size : Nat) (d : Bytes n) :
    zeroBytes off size d = true ↔ BytesZero off size d := by
  simp only [zeroBytes, List.all_eq_true, beq_iff_eq, mem_byteRange_iff]
  exact ⟨fun h j low high => h _ ⟨j, low, high, rfl⟩, fun h _ ⟨j, low, high, byte⟩ => byte ▸ h j low high⟩

/-- Zero bytes as R148 puts it: a byte that is not 0 lies outside the range. -/
theorem bytesZero_iff_outside {n : Nat} (off size : Nat) (d : Bytes n) :
    BytesZero off size d ↔ ∀ j : Fin n, d.get j ≠ 0 → ¬(off ≤ j.val ∧ j.val < off + size) :=
  forall_congr' fun _ => by tauto

theorem extractLsb'_low_eq_zero_iff {w : Nat} (n : Nat) (x : BitVec w) :
    x.extractLsb' 0 n = 0 ↔ x.toNat % 2 ^ n = 0 := by
  simp [BitVec.toNat_eq]

theorem extractLsb'_high_eq_zero_iff (a n : Nat) (x : BitVec (a + n)) : x.extractLsb' a n = 0 ↔ x.toNat < 2 ^ a := by
  have inWidth : x.toNat / 2 ^ a < 2 ^ n := Nat.div_lt_of_lt_mul (Nat.pow_add 2 a n ▸ x.isLt)
  rw [← BitVec.toNat_inj, BitVec.extractLsb'_toNat, Nat.shiftRight_eq_div_pow, Nat.mod_eq_of_lt inWidth]
  exact Nat.div_eq_zero_iff_lt (Nat.two_pow_pos a)

theorem and_not_eq_zero_iff {w : Nat} (x y : BitVec w) :
    x &&& ~~~y = 0 ↔ ∀ n < w, x.getLsbD n = true → y.getLsbD n = true := by
  rw [BitVec.eq_of_getLsbD_eq_iff]
  refine forall₂_congr fun n inWidth => ?_
  simp [inWidth]

/-! ### The modes, the group and the pins of a BURST (R178) -/

namespace Burst

theorem startMode_of_code (b : Burst) :
    (b.startCode = 0 → b.startMode = .immediate) ∧ (b.startCode = 1 → b.startMode = .atTime)
      ∧ (b.startCode = 2 → b.startMode = .group) :=
  ⟨fun code => by simp [startMode, code], fun code => by simp [startMode, code],
    fun code => by simp [startMode, code]⟩

theorem loopMode_of_code (b : Burst) :
    (b.loopCode = 0 → b.loopMode = .none) ∧ (b.loopCode = 1 → b.loopMode = .wrap)
      ∧ (b.loopCode = 2 → b.loopMode = .bounce) :=
  ⟨fun code => by simp [loopMode, code], fun code => by simp [loopMode, code],
    fun code => by simp [loopMode, code]⟩

/-- The three codes that R147 lets pass. -/
theorem code_cases {c : Byte} (known : c.toNat ≤ 2) : c = 0 ∨ c = 1 ∨ c = 2 := by bv_omega

theorem startMode_eq_group_iff {b : Burst} (known : b.startCode.toNat ≤ 2) :
    b.startMode = .group ↔ b.startCode = 2 := by
  obtain ⟨immediate, atTime, group⟩ := b.startMode_of_code
  obtain code | code | code := code_cases known
  · simp [immediate code, code]
  · simp [atTime code, code]
  · simp [group code, code]

theorem loopMode_eq_bounce_iff {b : Burst} (known : b.loopCode.toNat ≤ 2) :
    b.loopMode = .bounce ↔ b.loopCode = 2 := by
  obtain ⟨none, wrap, bounce⟩ := b.loopMode_of_code
  obtain code | code | code := code_cases known
  · simp [none code, code]
  · simp [wrap code, code]
  · simp [bounce code, code]

theorem group_val_of_le {b : Burst} (known : b.groupNumber.toNat ≤ 7) : b.group.val = b.groupNumber.toNat := by
  have low : b.group.val = b.groupNumber.toNat % 8 := by simp [group]
  rw [low, Nat.mod_eq_of_lt (Nat.lt_succ_of_le known)]

theorem pinSet_ne_zero_iff (b : Burst) : b.pinSet ≠ 0 ↔ b.drive ≠ 0 ∨ b.sense ≠ 0 :=
  BitVec.or_eq_zero_iff.not.trans not_and_or

end Burst

/-! ### The checks of each kind (R147, R148) -/

/-- The table of R147, row by row. -/
theorem burstValid_iff (r : Bytes 64) :
    let b := burstOf r
    burstValid r = true ↔
      b.flags.toNat < 32 ∧ BytesZero 61 3 r ∧ b.startCode.toNat ≤ 2 ∧ b.loopCode.toNat ≤ 2
      ∧ 1 ≤ b.vectorCount ∧ b.vectorCount ≤ 1024 ∧ b.vectorAddress.toNat % 16 = 0
      ∧ (b.drive ≠ 0 ∨ b.sense ≠ 0) ∧ (∀ n < 48, b.care.getLsbD n = true → b.sense.getLsbD n = true)
      ∧ (b.loopCode ≠ 0 → b.loopStart ≤ b.loopEnd ∧ b.loopEnd < b.vectorCount)
      ∧ (b.loopCode = 2 → b.loopStart ≠ b.loopEnd) ∧ (b.loopCode = 0 → b.passes = 0)
      ∧ 2 ≤ b.paceInteger.toNat ∧ b.paceFraction.toNat ≤ 31 ∧ b.strobeOffset.toNat < b.paceInteger.toNat
      ∧ (b.waitPins = true ∨ b.startCode = 2 → b.waitLimit ≠ 0)
      ∧ (if b.startCode = 2 then b.groupNumber.toNat ≤ 7 else b.groupNumber = 0)
      ∧ (if b.startCode = 2 then b.memberByte ≠ 0 ∧ b.memberByte.toNat < 16 else b.memberByte = 0)
      ∧ (b.timedGroup = true → b.startCode = 2) := by
  intro b
  have flags : b.flags.extractLsb' 5 3 = 0 ↔ b.flags.toNat < 32 := extractLsb'_high_eq_zero_iff 5 3 b.flags
  have address : b.vectorAddress.extractLsb' 0 4 = 0 ↔ b.vectorAddress.toNat % 16 = 0 :=
    extractLsb'_low_eq_zero_iff 4 b.vectorAddress
  have members : b.memberByte.extractLsb' 4 4 = 0 ↔ b.memberByte.toNat < 16 :=
    extractLsb'_high_eq_zero_iff 4 4 b.memberByte
  have waitRow : (b.waitPins = false ∧ ¬b.startCode = 2) ∨ ¬b.waitLimit = 0 ↔
      (b.waitPins = true ∨ b.startCode = 2 → b.waitLimit ≠ 0) := by
    rw [imp_iff_not_or, not_or, Bool.not_eq_true]
  have timedRow : b.timedGroup = false ∨ b.startCode = 2 ↔ (b.timedGroup = true → b.startCode = 2) := by
    rw [imp_iff_not_or, Bool.not_eq_true]
  simp only [burstValid, Bool.and_eq_true, Bool.or_eq_true, Bool.not_eq_true', decide_eq_true_iff, beq_iff_eq,
    bne_iff_ne, Bool.ite_eq_true_distrib, and_assoc, zeroBytes_iff]
  refine and_congr flags <| and_congr .rfl <| and_congr_right fun start => and_congr_right fun loop => ?_
  simp only [ne_eq, Burst.startMode_eq_group_iff start, Burst.loopMode_eq_bounce_iff loop,
    Burst.loopMode_eq_none_iff]
  exact and_congr .rfl <| and_congr .rfl <| and_congr address <| and_congr b.pinSet_ne_zero_iff <|
    and_congr (and_not_eq_zero_iff b.care b.sense) <| and_congr Decidable.or_iff_not_imp_left <|
    and_congr imp_iff_not_or.symm <| and_congr imp_iff_not_or.symm <| and_congr .rfl <| and_congr .rfl <|
    and_congr .rfl <| and_congr waitRow <| and_congr .rfl <|
    and_congr (iff_of_eq (if_congr .rfl (propext (and_congr_right fun _ => members)) rfl)) timedRow

theorem retuneValid_iff (r : Bytes 64) :
    retuneValid r = true ↔ 2 ≤ (retunePaceInteger r).toNat ∧ (retunePaceFraction r).toNat ≤ 31
      ∧ ∀ j : Fin 64, r.get j ≠ 0 → j.val = 0 ∨ (4 ≤ j.val ∧ j.val ≤ 7) ∨ (58 ≤ j.val ∧ j.val ≤ 60) := by
  simp only [retuneValid, Bool.and_eq_true, decide_eq_true_iff, and_assoc, zeroBytes_iff, bytesZero_iff_outside,
    ← forall_and]
  exact and_congr_right fun _ => and_congr_right fun _ => forall₂_congr fun j _ => by omega

theorem markValid_iff (r : Bytes 64) :
    markValid r = true ↔ (markStartCode r).toNat ≤ 1
      ∧ ∀ j : Fin 64, r.get j ≠ 0 →
          j.val = 0 ∨ j.val = 2 ∨ (4 ≤ j.val ∧ j.val ≤ 7) ∨ (16 ≤ j.val ∧ j.val ≤ 21) := by
  simp only [markValid, Bool.and_eq_true, decide_eq_true_iff, and_assoc, zeroBytes_iff, bytesZero_iff_outside,
    ← forall_and]
  exact and_congr_right fun _ => forall₂_congr fun j _ => by omega

theorem bareValid_iff (r : Bytes 64) :
    bareValid r = true ↔ ∀ j : Fin 64, r.get j ≠ 0 → j.val = 0 ∨ (4 ≤ j.val ∧ j.val ≤ 7) := by
  simp only [bareValid, Bool.and_eq_true, zeroBytes_iff, bytesZero_iff_outside, ← forall_and]
  exact forall₂_congr fun j _ => by omega

/-- The check that a record meets is the one of its kind code. -/
theorem recordValid_of_kind (r : Bytes 64) :
    (recordKind r = 1 → recordValid r = burstValid r) ∧ (recordKind r = 2 → recordValid r = retuneValid r)
      ∧ (recordKind r = 3 → recordValid r = markValid r)
      ∧ (recordKind r = 4 ∨ recordKind r = 5 → recordValid r = bareValid r)
      ∧ (recordKind r = 0 ∨ 6 ≤ (recordKind r).toNat → recordValid r = false) := by
  have byKind : recordValid r =
      if recordKind r = 1 then burstValid r else if recordKind r = 2 then retuneValid r
      else if recordKind r = 3 then markValid r else if recordKind r = 4 then bareValid r
      else if recordKind r = 5 then bareValid r else false := rfl
  rw [byKind]
  refine ⟨fun kind => ?_, fun kind => ?_, fun kind => ?_, ?_, fun kind => ?_⟩
  · rw [kind]; rfl
  · rw [kind]; rfl
  · rw [kind]; rfl
  · rintro (kind | kind) <;> rw [kind] <;> rfl
  · rw [if_neg, if_neg, if_neg, if_neg, if_neg] <;> bv_omega

/-- Settles O22, from the bits of a field, the layout of a BURST, and the check of each kind. -/
theorem recordChecksFollowTheTables : Obligations.RecordChecksFollowTheTables := by
  refine ⟨fun n w off k d h whole hk => getLsbD_field d h whole hk, fun r => ?_, fun r => ?_⟩
  · exact ⟨⟨rfl, rfl, rfl, rfl, rfl⟩, (burstOf r).startMode_of_code, (burstOf r).loopMode_of_code, rfl, rfl,
      Burst.group_val_of_le (b := burstOf r), (burstOf r).inMask_member, rfl, rfl, rfl, rfl, rfl, rfl, rfl, rfl, rfl,
      rfl, rfl, rfl, rfl, rfl, rfl, rfl, rfl, rfl⟩
  · obtain ⟨burst, retune, mark, bare, unknown⟩ := recordValid_of_kind r
    refine ⟨fun kind => ?_, fun kind => ?_, fun kind => ?_, fun kind => ?_, unknown⟩
    · rw [burst kind]
      exact burstValid_iff r
    · rw [retune kind]
      exact retuneValid_iff r
    · rw [mark kind]
      exact markValid_iff r
    · rw [bare kind]
      exact bareValid_iff r

end Sys2Proof.Machine
end

section
/-! SUBMIT (R142). A new tail of lane `l` lets at most that lane become eligible, so of the Host Port's requesters the
Fetch Unit alone may present after it, and its one turn puts the lane's read in flight. -/

namespace Sys2Proof.Machine

/-! ### One turn that leaves nothing presenting (R163) -/

/-- Where one requester alone may present and its turn would leave nothing presenting, nothing presents after the
Host Port's turns. -/
theorem portQuiet_hostPort_of_only {r : Requester} {s : State}
    (others : ∀ q ∈ requesters, q ≠ r → presents s q = false)
    (served : presents s r = true → PortQuiet (issueTurn r s)) : PortQuiet (hostPort s) := by
  rw [hostPort, Nat.add_comm, turns]
  split
  case h_1 nobody => exact portQuiet_of_nobody_in_turnOrder nobody
  case h_2 q found =>
    have asking : presents s q = true := List.find?_some found
    have only : q = r := by
      by_contra other
      have mem := mem_requesters_of_mem_turnOrder (List.mem_of_find?_eq_some found)
      exact absurd asking (by simp [others q mem other])
    subst only
    rw [turns_of_portQuiet (served asking)]
    exact served asking

/-! ### The Fetch Unit's turn (R144, R145) -/

/-- What the other requesters present does not depend on the lanes' ring indexes and fetch reads. -/
theorem presents_setLane_of_not_fetch {r : Requester} (other : r ≠ .fetch) {l : LaneId} {x : LaneState} {s : State}
    (staging : x.staging = (s.lane l).staging) : presents (s.setLane l x) r = presents s r := by
  cases r with
  | fetch => exact absurd rfl other
  | loader k =>
    have same : ((s.setLane l x).lane k).staging = (s.lane k).staging := by
      rw [State.lane_setLane]
      split
      case isTrue here => rw [staging, here]
      case isFalse => rfl
    exact congrArg (s.on && List.any · Entry.wantsRead) same
  | completion => rfl
  | capture => rfl

theorem eligible_setLane (s : State) (l k : LaneId) (x : LaneState) :
    eligible (s.setLane l x) k = if l = k then s.on && x.eligible else eligible s k := by
  rw [eligible, State.lane_setLane]
  split <;> rfl

theorem presents_fetch_eq_false_iff (s : State) : presents s .fetch = false ↔ ∀ l, eligible s l = false := by
  simp [presents, mem_allLanes]

theorem mem_fetchOrder : ∀ last l : LaneId, l ∈ fetchOrder last := by decide

theorem chooseLane_of_only {s : State} {l : LaneId} (can : eligible s l = true)
    (others : ∀ k, k ≠ l → eligible s k = false) : chooseLane s = some l := by
  cases chosen : chooseLane s with
  | none => exact absurd can (List.find?_eq_none.mp chosen l (mem_fetchOrder _ l))
  | some k =>
    have asks := chooseLane_eligible chosen
    by_contra other
    exact absurd asks (by simp [others k fun same => other (congrArg some same)])

/-- The issued read shows in the chosen lane alone; the bus and the round-robins do not say who presents. -/
theorem presents_issueTurn_fetch {s : State} {l : LaneId} (chosen : chooseLane s = some l) (r : Requester) :
    presents (issueTurn .fetch s) r =
      presents (s.setLane l { s.lane l with fetch := .live s.port.nextOp, reserved := true }) r := by
  rw [issueTurn, chosen]
  cases r <;> rfl

/-- Where no lane but `l` may be eligible and no other requester presents, the Host Port's turns leave nothing
presenting. -/
theorem portQuiet_hostPort_of_lane {s : State} {l : LaneId}
    (others : ∀ r ∈ requesters, r ≠ .fetch → presents s r = false)
    (otherLanes : ∀ k, k ≠ l → eligible s k = false) : PortQuiet (hostPort s) := by
  refine portQuiet_hostPort_of_only others fun asking r hr => ?_
  have can : eligible s l = true := by
    by_contra cannot
    have nobody : presents s .fetch = false := (presents_fetch_eq_false_iff s).mpr fun k => by
      obtain rfl | other := eq_or_ne k l
      · exact Bool.eq_false_iff.mpr cannot
      · exact otherLanes k other
    rw [nobody] at asking
    cases asking
  rw [presents_issueTurn_fetch (chooseLane_of_only can otherLanes)]
  obtain rfl | other := eq_or_ne r .fetch
  · refine (presents_fetch_eq_false_iff _).mpr fun k => ?_
    rw [eligible_setLane]
    split
    case isTrue => simp [LaneState.eligible]
    case isFalse elsewhere => exact otherLanes k (Ne.symm elsewhere)
  · rw [presents_setLane_of_not_fetch other, others r hr other]
    rfl

/-! ### The new tail (R142) -/

theorem State.setLane_lane (s : State) (l : LaneId) : s.setLane l (s.lane l) = s := by
  simp [State.setLane, State.lane, setTable, Vector.get_eq_getElem]

theorem exec_submit_of_not_on {s : State} (l : LaneId) (tail : BitVec 12) (off : s.window.device ≠ .on) :
    exec (.submit l tail) s = finishState (setRefused s) := if_neg off

theorem exec_submit_of_on {s : State} (l : LaneId) (tail : BitVec 12) (on : s.window.device = .on) :
    exec (.submit l tail) s =
      finishState (if tail.toNat < (s.lane l).entries then setTail l tail.toNat s else setIndexError s) :=
  (if_pos on).trans (apply_ite finishState _ _ _).symm

theorem portQuiet_hostPort_setTail {s : State} (quiet : PortQuiet s) (l : LaneId) (tail : Nat) :
    PortQuiet (hostPort (setTail l tail s)) := by
  have noneEligible := (presents_fetch_eq_false_iff s).mp (quiet .fetch (by decide))
  refine portQuiet_hostPort_of_lane (l := l) (fun r hr other => ?_) fun k other => ?_
  · rw [setTail, presents_setLane_of_not_fetch other, quiet r hr]
    rfl
  · rw [setTail, eligible_setLane, if_neg other.symm, noneEligible]

/-- Settles O17: the clauses are the branches of SUBMIT; a new tail leaves the Host Port at most the read of its lane
to issue. -/
theorem submitReplacesTail : Obligations.SubmitReplacesTail := by
  intro l tail s quiet
  refine ⟨fun off => ?_, fun on outside => ?_, fun on inside => ?_, fun on inside same => ?_⟩
  · rw [exec_submit_of_not_on l tail off]
    exact finishState_of_portQuiet (quiet.withWindow rfl)
  · rw [exec_submit_of_on l tail on, if_neg (Nat.not_lt_of_le outside)]
    exact finishState_of_portQuiet (quiet.withWindow rfl)
  · rw [exec_submit_of_on l tail on, if_pos inside]
    refine ⟨setTail l tail.toNat s, _, rfl, hostPort_frame _, portQuiet_hostPort_setTail quiet l _, rfl,
      fun k => ?_⟩
    rw [setTail, State.lane_setLane]
    exact if_congr eq_comm rfl rfl
  · have unchanged : setTail l tail.toNat s = s := by
      rw [setTail, same]
      exact s.setLane_lane l
    rw [exec_submit_of_on l tail on, if_pos inside, unchanged]
    exact finishState_of_portQuiet quiet

end Sys2Proof.Machine
end
section
/-! The Host Port's turns in any state (R163). A turn takes a request off those that the state has left, and the
turns of one event are more than a state can have left, so that nothing presents after them. -/

namespace Sys2Proof.Machine

/-! ### Outside ON -/

theorem presents_of_not_on {s : State} (off : s.window.device ≠ .on) (r : Requester) : presents s r = false := by
  have notOn : s.on = false := by simpa [State.on] using off
  cases r <;> simp [presents, eligible, RingWriter.ready, notOn]

theorem portQuiet_of_not_on {s : State} (off : s.window.device ≠ .on) : PortQuiet s :=
  fun r _ => presents_of_not_on off r

theorem finishState_of_not_on {s : State} (off : s.window.device ≠ .on) : finishState s = .next s :=
  finishState_of_portQuiet (portQuiet_of_not_on off)

/-! ### The requests a state has left -/

/-- The reads that a lane could have issued: its fetch read, and one load read for each entry that wants one. -/
def LaneState.readsLeft (x : LaneState) : Nat := bit x.eligible + x.staging.countP Entry.wantsRead

/-- The requests that the Host Port could issue one after the other, the device being ON. -/
def requestsLeft (s : State) : Nat :=
  (allLanes.map fun l => (s.lane l).readsLeft).sum + bit (presents s .completion) + bit (presents s .capture)

theorem bit_le_one (b : Bool) : bit b ≤ 1 := by cases b <;> decide

theorem LaneState.readsLeft_le (x : LaneState) : x.readsLeft ≤ 1 + x.staging.length :=
  Nat.add_le_add (bit_le_one _) List.countP_le_length

/-- The bound on the turns of one event exceeds the requests that the state has left. -/
theorem requestsLeft_le_bound (s : State) : requestsLeft s ≤ 8 + stagedCount s := by
  have reads := fun l => (s.lane l).readsLeft_le
  have completion := bit_le_one (presents s .completion)
  have capture := bit_le_one (presents s .capture)
  simp only [requestsLeft, stagedCount, allLanes, List.map_cons, List.map_nil, List.sum_cons, List.sum_nil]
  linarith [reads 0, reads 1, reads 2, reads 3]

theorem sum_lanes_lt {before after : LaneId → Nat} {l : LaneId} (less : after l < before l)
    (others : ∀ k, k ≠ l → after k = before k) : (allLanes.map after).sum < (allLanes.map before).sum := by
  refine List.sum_lt_sum _ _ (fun k _ => ?_) ⟨l, mem_allLanes l, less⟩
  obtain rfl | other := eq_or_ne k l
  · exact less.le
  · exact (others k other).le

/-! ### A turn takes a request off them -/

theorem chooseLane_of_presents {s : State} (asks : presents s .fetch = true) : ∃ l, chooseLane s = some l := by
  refine Option.ne_none_iff_exists'.mp fun nobody => ?_
  have idle : presents s .fetch = false := (presents_fetch_eq_false_iff s).mpr fun l => by
    simpa using List.find?_eq_none.mp nobody l (mem_fetchOrder _ l)
  rw [idle] at asks
  cases asks

/-- The start of the oldest wanted read answers the entry it serves, and one entry less wants a read. -/
theorem startOldestRead_of_wanted (op : OpId) {q : List Entry} (wanted : q.any Entry.wantsRead = true) :
    (startOldestRead op q).1 ≠ none
      ∧ (startOldestRead op q).2.countP Entry.wantsRead < q.countP Entry.wantsRead := by
  induction q with
  | nil => cases wanted
  | cons e q ih =>
    by_cases wants : e.wantsRead = true
    · have started : (e.startRead op).wantsRead = false := by simp [Entry.wantsRead, Entry.startRead]
      simp [startOldestRead, wants, started]
    · have later : q.any Entry.wantsRead = true := by simpa [wants] using wanted
      simpa [startOldestRead, wants] using ih later

theorem startOldestRead_length (op : OpId) (q : List Entry) : (startOldestRead op q).2.length = q.length := by
  simpa using congrArg List.length (startOldestRead_unread op q)

/-- A lane whose oldest wanted load read is started is as eligible for a fetch as before. -/
theorem LaneState.eligible_startOldestRead (op : OpId) (x : LaneState) :
    ({ x with staging := (startOldestRead op x.staging).2 } : LaneState).eligible = x.eligible := by
  simp only [LaneState.eligible, LaneState.room, startOldestRead_length]

/-- A turn that puts a read of lane `l` in flight and touches neither ring takes a request off those left. -/
theorem requestsLeft_lt_of_lane {s t : State} {l : LaneId} (less : (t.lane l).readsLeft < (s.lane l).readsLeft)
    (others : ∀ k, k ≠ l → t.lane k = s.lane k) (completion : presents t .completion = presents s .completion)
    (capture : presents t .capture = presents s .capture) : requestsLeft t < requestsLeft s := by
  have reads := sum_lanes_lt (before := fun k => (s.lane k).readsLeft) (after := fun k => (t.lane k).readsLeft) less
    fun k other => congrArg LaneState.readsLeft (others k other)
  simp only [requestsLeft, completion, capture]
  omega

theorem requestsLeft_issueTurn_fetch_lt {s : State} (asks : presents s .fetch = true) :
    requestsLeft (issueTurn .fetch s) < requestsLeft s := by
  obtain ⟨l, chosen⟩ := chooseLane_of_presents asks
  have can : (s.lane l).eligible = true := by
    have := chooseLane_eligible chosen
    simp only [eligible, Bool.and_eq_true] at this
    exact this.2
  have lane (k : LaneId) : (issueTurn .fetch s).lane k =
      if l = k then { s.lane l with fetch := .live s.port.nextOp, reserved := true } else s.lane k := by
    rw [issueTurn, chosen]
    exact State.lane_setLane _ l k _
  refine requestsLeft_lt_of_lane (l := l) ?_ (fun k other => ?_) (presents_issueTurn_fetch chosen _)
    (presents_issueTurn_fetch chosen _)
  · rw [lane, if_pos rfl, LaneState.readsLeft, LaneState.readsLeft, can]
    simp [LaneState.eligible, bit]
  · rw [lane, if_neg other.symm]

theorem requestsLeft_issueTurn_loader_lt {s : State} {l : LaneId} (asks : presents s (.loader l) = true) :
    requestsLeft (issueTurn (.loader l) s) < requestsLeft s := by
  have wanted : (s.lane l).staging.any Entry.wantsRead = true := by
    simp only [presents, Bool.and_eq_true] at asks
    exact asks.2
  obtain ⟨served, fewer⟩ := startOldestRead_of_wanted s.port.nextOp wanted
  obtain ⟨e, found⟩ := Option.ne_none_iff_exists'.mp served
  have lane (k : LaneId) : (issueTurn (.loader l) s).lane k =
      if l = k then { s.lane l with staging := (startOldestRead s.port.nextOp (s.lane l).staging).2 }
      else s.lane k := by
    rw [issueTurn, issueLoad, found]
    exact State.lane_setLane _ l k _
  refine requestsLeft_lt_of_lane (l := l) ?_ (fun k other => ?_) ?_ ?_
  · rw [lane, if_pos rfl, LaneState.readsLeft, LaneState.readsLeft, LaneState.eligible_startOldestRead]
    exact Nat.add_lt_add_left fewer _
  · rw [lane, if_neg other.symm]
  all_goals
    rw [issueTurn, issueLoad, found]
    rfl

theorem requestsLeft_issueTurn_writer_lt {s : State} {writer : Requester}
    (h : writer = .completion ∨ writer = .capture) (asks : presents s writer = true) :
    requestsLeft (issueTurn writer s) < requestsLeft s := by
  have lane (k : LaneId) : ((issueTurn writer s).lane k).readsLeft = (s.lane k).readsLeft := by
    obtain rfl | rfl := h
    · rw [issueTurn, issueCompletion]; split <;> rfl
    · rw [issueTurn, issueCapture]; split <;> rfl
  simp only [requestsLeft, lane, presents_issueTurn_writer h]
  obtain rfl | rfl := h <;> simp [asks, bit]

theorem requestsLeft_issueTurn_lt {s : State} {r : Requester} (asks : presents s r = true) :
    requestsLeft (issueTurn r s) < requestsLeft s := by
  cases r with
  | fetch => exact requestsLeft_issueTurn_fetch_lt asks
  | loader l => exact requestsLeft_issueTurn_loader_lt asks
  | completion => exact requestsLeft_issueTurn_writer_lt (.inl rfl) asks
  | capture => exact requestsLeft_issueTurn_writer_lt (.inr rfl) asks

/-! ### Nothing presents after the turns -/

theorem portQuiet_turns {n : Nat} {s : State} (enough : requestsLeft s ≤ n) : PortQuiet (turns n s) := by
  induction n generalizing s with
  | zero =>
    intro r _
    by_contra asks
    have fewer : requestsLeft (issueTurn r s) < requestsLeft s :=
      requestsLeft_issueTurn_lt (Bool.eq_true_of_not_eq_false asks)
    omega
  | succ n ih =>
    rw [turns]
    split
    case h_1 nobody => exact portQuiet_of_nobody_in_turnOrder nobody
    case h_2 r found =>
      have fewer := requestsLeft_issueTurn_lt (List.find?_some found)
      exact ih (by omega)

theorem portQuiet_hostPort (s : State) : PortQuiet (hostPort s) := portQuiet_turns (requestsLeft_le_bound s)

end Sys2Proof.Machine
end

section
/-! START (R176). It changes run states and the read-back of CONTROL alone, and the Host Port's turns serve the lanes
that it lets read. -/

namespace Sys2Proof.Machine

/-- CONTROL reads back the code in bits 0 to 7 and the lane mask from bit 8 on (R168). -/
theorem controlWord_eq (code : Byte) (mask : LaneMask) :
    controlWord code mask = BitVec.ofNat 32 (code.toNat + 256 * mask.toNat) := by
  have hcode : code.toNat < 2 ^ 8 := code.isLt
  have hmask : mask.toNat < 2 ^ 4 := mask.isLt
  refine BitVec.eq_of_toNat_eq ?_
  have disjoint : code.toNat ||| 256 * mask.toNat = code.toNat + 256 * mask.toNat := by
    rw [Nat.lor_comm, Nat.add_comm]
    exact (Nat.two_pow_add_eq_or_of_lt hcode mask.toNat).symm
  simp only [controlWord, BitVec.toNat_or, BitVec.toNat_shiftLeft, BitVec.toNat_setWidth, BitVec.toNat_ofNat,
    Nat.shiftLeft_eq]
  rw [Nat.mod_eq_of_lt (a := code.toNat) (by omega), Nat.mod_eq_of_lt (a := mask.toNat) (by omega),
    Nat.mod_eq_of_lt (by omega), Nat.mod_eq_of_lt (by omega), Nat.mul_comm, disjoint]

theorem acceptCommand_eq (code : Byte) (mask : LaneMask) (s : State) :
    acceptCommand code mask s = { s with window := { s.window with
      control := BitVec.ofNat 32 (code.toNat + 256 * mask.toNat) } } := by
  rw [acceptCommand, controlWord_eq]

theorem LaneState.restart_eq (x : LaneState) :
    x.restart = { x with run := if x.run = .stopped ∨ x.run = .faulted then .run else x.run } := by
  rw [LaneState.restart]
  split <;> rfl

theorem startLanes_lane (m : LaneMask) (s : State) (l : LaneId) :
    (startLanes m s).lane l = { s.lane l with
      run := if m.getLsbD l = true ∧ ((s.lane l).run = .stopped ∨ (s.lane l).run = .faulted) then .run
             else (s.lane l).run } := by
  have start : (startLanes m s).lane l = if m.getLsbD l then (s.lane l).restart else s.lane l :=
    mapTable_get _ s.lanes l
  rw [start]
  by_cases acts : m.getLsbD l = true
  · rw [if_pos acts, LaneState.restart_eq]
    simp only [acts, true_and]
  · simp only [acts, false_and, if_false, Bool.false_eq_true]

theorem exec_start_of_on {s : State} (m : LaneMask) (on : s.window.device = .on) :
    exec (.start m) s = finishState (startLanes m (acceptCommand 5 m s)) := if_pos on

/-- Settles O15: START is `startLanes` and the Host Port's turns, after which nothing presents. -/
theorem startReturnsLanesToRun : Obligations.StartReturnsLanesToRun := by
  intro m s on
  refine ⟨startLanes m (acceptCommand 5 m s), _, exec_start_of_on m on, hostPort_frame _, portQuiet_hostPort _, ?_,
    fun l => startLanes_lane m (acceptCommand 5 m s) l⟩
  rw [acceptCommand_eq]
  rfl

end Sys2Proof.Machine
end

section
/-! DISABLE and reset (R173, R174). Each leaves a part in which no operation on the bus has a request, and in such a
part a return changes nothing but the bus; that is said once, by `repliesDropped`. -/

namespace Sys2Proof.Machine

/-! ### A part that awaits no return (R163) -/

/-- Outside ON with no setup read, no lane read and no write in flight: no operation has a request. -/
structure AwaitsNothing (s : State) : Prop where
  off : s.window.device ≠ .on
  setupRead : s.window.setupRead = none
  fetch : ∀ l, (s.lane l).fetch = .none
  staging : ∀ l, (s.lane l).staging = []
  completion : s.completionRing.writing = none
  capture : s.captureRing.writing = none

/-- Every return, whatever it brings, changes nothing; the return of an operation without a request takes it off the
bus. -/
def RepliesDropped (t : State) : Prop :=
  (∀ reply, exec (.setupReadReturn reply) t = .next t) ∧ (∀ l r, exec (.recordArrival l r) t = .next t)
    ∧ (∀ l, exec (.fetchBusError l) t = .next t) ∧ (∀ l, exec (.discardedFetchReturn l) t = .next t)
    ∧ (∀ l k d, exec (.loadReadReturn l k d) t = .next t) ∧ (∀ l k, exec (.loadFault l k) t = .next t)
    ∧ (∀ l k, exec (.withdrawnLoadReturn l k) t = .next t)
    ∧ exec .completionWriteDone t = .next t ∧ exec .completionWriteError t = .next t
    ∧ exec .captureWriteDone t = .next t ∧ exec .captureWriteError t = .next t
    ∧ (∀ op, exec (.staleReturn op) t =
        .next { t with port := { t.port with bus := t.port.bus.filter fun o => o.id != op } })

theorem finish_nil_of_not_on {s : State} (off : s.window.device ≠ .on) : finish (s, []) = .next s := by
  rw [finish, settle_nil]
  exact finishState_of_not_on off

section
variable {s : State} (h : AwaitsNothing s)
include h

theorem AwaitsNothing.setupReturn (reply : ReadReply 256) : setupReturn reply s = s := by
  rw [Machine.setupReturn, h.setupRead]
  cases s.window.device <;> rfl

theorem AwaitsNothing.fetchReturn (l : LaneId) (reply : ReadReply 64) : fetchReturn l reply s = (s, []) := by
  rw [Machine.fetchReturn, h.fetch]

theorem AwaitsNothing.discardedReturn (l : LaneId) : discardedReturn l s = s := by
  rw [Machine.discardedReturn, h.fetch]

theorem AwaitsNothing.entryAt (l : LaneId) (place : Nat) : entryAt l place s = none := by
  rw [Machine.entryAt, h.staging]
  rfl

theorem AwaitsNothing.loadReturn (l : LaneId) (place : Nat) (reply : LoadReturn) :
    loadReturn l place reply s = (s, []) := by
  rw [Machine.loadReturn, h.entryAt]

theorem AwaitsNothing.withdrawnReturn (l : LaneId) (place : Nat) : withdrawnReturn l place s = (s, []) := by
  rw [Machine.withdrawnReturn, h.entryAt]

theorem AwaitsNothing.completionDone : completionDone s = (s, []) := by
  rw [Machine.completionDone, h.completion]

theorem AwaitsNothing.captureDone : captureDone s = s := by
  rw [Machine.captureDone, h.capture]

theorem AwaitsNothing.not_awaited (op : OpId) : awaited op s = false := by
  simp [awaited, LaneState.awaits, h.setupRead, h.fetch, h.staging, h.completion, h.capture]

theorem AwaitsNothing.repliesDropped : RepliesDropped s := by
  have same := finishState_of_not_on h.off
  have sameEffect := finish_nil_of_not_on h.off
  refine ⟨fun reply => ?_, fun l r => ?_, fun l => ?_, fun l => ?_, fun l k d => ?_, fun l k => ?_, fun l k => ?_,
    ?_, ?_, ?_, ?_, fun op => ?_⟩
  · exact (congrArg finishState (h.setupReturn reply)).trans same
  · exact (congrArg finish (h.fetchReturn l _)).trans sameEffect
  · exact (congrArg finish (h.fetchReturn l _)).trans sameEffect
  · exact (congrArg finishState (h.discardedReturn l)).trans same
  · exact (congrArg finish (h.loadReturn l k _)).trans sameEffect
  · exact (congrArg finish (h.loadReturn l k _)).trans sameEffect
  · exact (congrArg finish (h.withdrawnReturn l k)).trans sameEffect
  · exact (congrArg finish h.completionDone).trans sameEffect
  · change execCompletionWriteError s = _
    rw [execCompletionWriteError, h.completion]
    exact same
  · exact (congrArg finishState h.captureDone).trans same
  · change execCaptureWriteError s = _
    rw [execCaptureWriteError, h.capture]
    exact same
  · change execStaleReturn op s = _
    rw [execStaleReturn, if_neg (Bool.eq_false_iff.mp (h.not_awaited op))]
    exact finishState_of_not_on (s := returnOp op s) h.off

end

/-! ### The tables of blocks -/

/-- The qualifier's state of a pin below 48 is the table's. -/
theorem Qualifier.pin_eq (q : Qualifier) (n : PinId) : q.pin n.val = q.pins.get n := by
  simp [Qualifier.pin, Vector.get_eq_getElem]

theorem replicate_get {α : Type} {n : Nat} (x : α) (i : Fin n) : (Vector.replicate n x).get i = x := by
  simp [Vector.get_eq_getElem]

theorem irqLine_of_low {s : State} (low : s.window.device = .off ∨ s.window.device = .configuring) :
    irqLine s = false := by
  obtain low | low := low <;> simp [irqLine, causeCQ, causeKQ, causeFault, causesLive, low]

/-! ### DISABLE (R173) -/

/-- What DISABLE and a device FAULT drop, block by block. -/
theorem workDropped_dropWork (s : State) : WorkDropped s (dropWork s) where
  timebase := rfl
  store := rfl
  outside := rfl
  lanes l := mapTable_get _ s.lanes l
  alloc := rfl
  pins n := by
    rw [State.pin_eq, State.pin_eq]
    exact mapTable_get _ s.pins n
  claims := rfl
  groups g := mapTable_get _ s.groups g
  interval := rfl
  levels n := (Qualifier.pin_eq _ n).trans (mapTable_get _ s.qualifier.pins n)
  capture := ⟨fun n => mapTable_get _ s.capture.pins n, rfl, rfl⟩
  captureRing := rfl
  trips i := mapTable_get _ s.trips i
  post := rfl
  completionRing := rfl

/-- The dropping of work is said of no register and of no interrupt state. -/
theorem WorkDropped.withRegisters {s t : State} (h : WorkDropped s t) (before after : Window) (i : Interrupt) :
    WorkDropped { s with window := before } { t with window := after, interrupt := i } where
  timebase := h.timebase
  store := h.store
  outside := h.outside
  lanes := h.lanes
  alloc := h.alloc
  pins := h.pins
  claims := h.claims
  groups := h.groups
  interval := h.interval
  levels := h.levels
  capture := h.capture
  captureRing := h.captureRing
  trips := h.trips
  post := h.post
  completionRing := h.completionRing

theorem awaitsNothing_deviceOff (s : State) : AwaitsNothing (deviceOff s) where
  off := nofun
  setupRead := rfl
  fetch l := congrArg LaneState.fetch (mapTable_get _ s.lanes l)
  staging l := congrArg LaneState.staging (mapTable_get _ s.lanes l)
  completion := rfl
  capture := rfl

theorem exec_disable_of_off {s : State} (off : s.window.device = .off) :
    exec .disable s = .next { s with window := { s.window with control := 2 } } := by
  have low : (acceptCommand 2 0 s).window.device ≠ .on := by simp [acceptCommand, off]
  calc exec .disable s
    _ = finishState (acceptCommand 2 0 s) := if_pos off
    _ = .next (acceptCommand 2 0 s) := finishState_of_not_on low
    _ = _ := by rw [acceptCommand_eq]; rfl

theorem exec_disable_of_not_off {s : State} (working : s.window.device ≠ .off) :
    exec .disable s = .next (deviceOff (acceptCommand 2 0 s)) :=
  (if_neg working).trans (finishState_of_not_on (awaitsNothing_deviceOff _).off)

/-- Settles O12: outside OFF, DISABLE is `deviceOff`, which drops the work of every block and leaves no operation
with a request. -/
theorem disableDropsAllWork : Obligations.DisableDropsAllWork := by
  refine ⟨fun s off => exec_disable_of_off off, fun s working => ?_⟩
  refine ⟨_, exec_disable_of_not_off working, (workDropped_dropWork s).withRegisters _ _ _, ?_, rfl,
    irqLine_of_low (.inl rfl), rfl, rfl, rfl, (awaitsNothing_deviceOff _).repliesDropped⟩
  rw [acceptCommand_eq]
  rfl

/-! ### Reset (R174) -/

theorem awaitsNothing_resetPart (s : State) : AwaitsNothing (resetPart s) where
  off := nofun
  setupRead := rfl
  fetch l := congrArg LaneState.fetch (replicate_get LaneState.reset l)
  staging l := congrArg LaneState.staging (replicate_get LaneState.reset l)
  completion := rfl
  capture := rfl

/-- Settles O13: the three resets are `resetPart`, whose blocks are those of the state after reset. -/
theorem resetReturnsEveryBlock : Obligations.ResetReturnsEveryBlock := by
  intro s ring
  have setupLo : readReg (resetPart s) .setupLo = 0 := BitVec.extractLsb'_zero ..
  have setupHi : readReg (resetPart s) .setupHi = 0 := BitVec.extractLsb'_zero ..
  have lane (l : LaneId) : (resetPart s).lane l = LaneState.reset := replicate_get _ l
  have pin (n : PinId) : (resetPart s).pin n = PinEntry.reset := (State.pin_eq _ n).trans (replicate_get _ n)
  have group (g : GroupId) : (resetPart s).group g = Group.idle := replicate_get _ g
  have level (n : PinId) : (resetPart s).qualifier.pin n = ⟨false, 0⟩ :=
    (Qualifier.pin_eq _ n).trans (replicate_get _ n)
  have monitor (n : PinId) : (resetPart s).capture.pins.get n = ⟨.none, none⟩ := replicate_get _ n
  have trip (i : SetId) : (resetPart s).trip i = TripSet.reset := replicate_get _ i
  exact ⟨resetPart s, rfl, rfl, rfl, rfl, rfl, rfl, rfl, setupLo, setupHi, rfl, rfl, rfl, lane, rfl, rfl, pin, rfl,
    group, rfl, level, monitor, rfl, rfl, rfl, rfl, rfl, trip, rfl, rfl, rfl, irqLine_of_low (.inl rfl),
    (awaitsNothing_resetPart s).repliesDropped⟩

end Sys2Proof.Machine
end

section
/-! The checks on a setup block (R171). Each check of the model is the reading of R182 that the statement writes out,
and the code of a block is that of the first check in the table's order that fails. -/

namespace Sys2Proof.Machine

/-! ### The fields of the block (R182) -/

theorem all_range_iff (n : Nat) (p : Nat → Bool) : (List.range n).all p = true ↔ ∀ k < n, p k = true := by simp

theorem setupTripEnable_eq (i : Nat) (d : Bytes 256) : setupTripEnable i d = field 8 (125 + 16 * i) d := by
  rw [setupTripEnable, setupTripOffset, Nat.add_right_comm]

theorem setupTripLaneByte_eq (i : Nat) (d : Bytes 256) : setupTripLaneByte i d = field 8 (124 + 16 * i) d := by
  rw [setupTripLaneByte, setupTripOffset, Nat.add_right_comm]

theorem setupTripUnused_eq (i : Nat) : setupTripOffset i + 14 = 126 + 16 * i := by
  rw [setupTripOffset, Nat.add_right_comm]

/-! ### The checks, one by one (R171, R182) -/

/-- The powers of two that a ring may have as its entries. -/
theorem ringEntriesOk_iff (n : Nat) : ringEntriesOk n = true ↔ ∃ j, 4 ≤ j ∧ j ≤ 12 ∧ n = 2 ^ j := by
  constructor
  · intro ok
    have listed : n ∈ (List.range' 4 9).map (2 ^ ·) := List.contains_iff_mem.mp ok
    obtain ⟨j, inRange, rfl⟩ := List.mem_map.mp listed
    rw [List.mem_range'_1] at inRange
    exact ⟨j, by omega, by omega, rfl⟩
  · rintro ⟨j, low, high, rfl⟩
    interval_cases j <;> decide

theorem setupEntriesOk_iff (d : Bytes 256) : setupEntriesOk d = true ↔ SetupEntriesFit d :=
  (all_range_iff 6 _).trans (forall₂_congr fun _ _ => ringEntriesOk_iff _)

theorem setupBasesOk_iff (d : Bytes 256) : setupBasesOk d = true ↔ SetupBasesFit d := by
  have multiple (n k : Nat) : ((setupBase k d).extractLsb' 0 n == 0) = true ↔ (setupBase k d).toNat % 2 ^ n = 0 :=
    beq_iff_eq.trans (extractLsb'_low_eq_zero_iff n _)
  rw [setupBasesOk, Bool.and_eq_true, multiple]
  exact and_congr_left' ((all_range_iff 5 _).trans (forall₂_congr fun k _ => multiple 6 k))

theorem setupNumbersOk_iff (d : Bytes 256) : setupNumbersOk d = true ↔ SetupNumbersFit d := by
  simp only [setupNumbersOk, SetupNumbersFit, Bool.and_eq_true, bne_iff_ne, and_assoc]
  rfl

theorem setupTripsOk_iff (d : Bytes 256) : setupTripsOk d = true ↔ SetupTripsFit d := by
  refine (all_range_iff 2 _).trans (forall₂_congr fun i _ => ?_)
  have lanes : setupTripLanes i d = 0 ↔ (field 8 (124 + 16 * i) d).toNat % 16 = 0 := by
    rw [setupTripLanes, setupTripLaneByte_eq]
    exact extractLsb'_low_eq_zero_iff 4 _
  simp only [setupTripEnable_eq, setupTripPins, setupTripOffset, Bool.or_eq_true, Bool.and_eq_true, bne_iff_ne, ne_eq,
    lanes]
  tauto

theorem setupPinWord_ok_iff (n : Nat) (d : Bytes 256) :
    ((setupPinWord n d).extractLsb' 8 8 == 0 && (setupPinWord n d).extractLsb' 0 2 != 3) = true ↔
      (field 16 (144 + 2 * n) d).toNat < 256 ∧ (field 16 (144 + 2 * n) d).toNat % 4 ≠ 3 := by
  have unused : (setupPinWord n d).extractLsb' 8 8 = 0 ↔ (setupPinWord n d).toNat < 256 :=
    extractLsb'_high_eq_zero_iff 8 8 _
  have safe : (setupPinWord n d).extractLsb' 0 2 = 3 ↔ (setupPinWord n d).toNat % 4 = 3 := by
    simp [BitVec.toNat_eq]
  rw [Bool.and_eq_true, beq_iff_eq, bne_iff_ne, ne_eq, unused, safe]
  rfl

theorem setupTrip_unused_iff (i : Nat) (d : Bytes 256) :
    ((setupTripLaneByte i d).extractLsb' 4 4 == 0 && (setupTripEnable i d).toNat ≤ 1
        && zeroBytes (setupTripOffset i + 14) 2 d) = true ↔
      (field 8 (124 + 16 * i) d).toNat < 16 ∧ (field 8 (125 + 16 * i) d).toNat ≤ 1 ∧ BytesZero (126 + 16 * i) 2 d := by
  have lanes : (setupTripLaneByte i d).extractLsb' 4 4 = 0 ↔ (setupTripLaneByte i d).toNat < 16 :=
    extractLsb'_high_eq_zero_iff 4 4 _
  rw [Bool.and_eq_true, Bool.and_eq_true, beq_iff_eq, decide_eq_true_iff, zeroBytes_iff, lanes, and_assoc,
    setupTripLaneByte_eq, setupTripEnable_eq, setupTripUnused_eq]

theorem setupReservedOk_iff (d : Bytes 256) : setupReservedOk d = true ↔ SetupReservedFit d := by
  have irq : (setupIrqByte d).extractLsb' 3 5 = 0 ↔ (field 8 96 d).toNat < 8 := extractLsb'_high_eq_zero_iff 3 5 _
  have pins := (all_range_iff 48 _).trans (forall₂_congr fun n _ => setupPinWord_ok_iff n d)
  have trips := (all_range_iff 2 _).trans (forall₂_congr fun i _ => setupTrip_unused_iff i d)
  have rings := (all_range_iff 6 _).trans (forall₂_congr fun k _ => zeroBytes_iff (16 * k + 10) 6 d)
  simp only [setupReservedOk, Bool.and_eq_true, beq_iff_eq, zeroBytes_iff, irq, and_assoc]
  exact and_congr pins (and_congr trips (and_congr_right fun _ => and_congr_left' rings))

/-! ### The first check that fails (R171) -/

theorem setupCheck_data (address : Addr) (d : Bytes 256) [Decidable (SetupEntriesFit d)] [Decidable (SetupBasesFit d)]
    [Decidable (SetupNumbersFit d)] [Decidable (SetupTripsFit d)] [Decidable (SetupReservedFit d)] :
    setupCheck address (.data d) =
      if ¬ SetupEntriesFit d then 2
      else if ¬ SetupBasesFit d then 3
      else if ¬ SetupNumbersFit d then 4
      else if ¬ SetupTripsFit d then 5
      else if ¬ SetupReservedFit d then 6
      else if address.toNat % 64 = 0 then 0 else 7 := by
  have aligned : address.extractLsb' 0 6 = 0 ↔ address.toNat % 64 = 0 := extractLsb'_low_eq_zero_iff 6 address
  simp only [setupCheck, Bool.not_eq_true', ← Bool.not_eq_true, setupEntriesOk_iff, setupBasesOk_iff,
    setupNumbersOk_iff, setupTripsOk_iff, setupReservedOk_iff, bne_iff_ne, ne_eq, aligned, ite_not]

/-! ### The return of a setup read that fails (R171) -/

theorem setupReturn_of_failing {reply : ReadReply 256} {r : SetupRead} {s : State}
    (configuring : s.window.device = .configuring) (reading : s.window.setupRead = some r)
    (fails : setupCheck r.address reply ≠ 0) :
    setupReturn reply s = setupFails (setupCheck r.address reply) (returnOp r.op s) := by
  rw [setupReturn, configuring, reading]
  cases reply with
  | data d => exact if_neg fails
  | busError => rfl

theorem exec_setupReadReturn_of_failing {reply : ReadReply 256} {r : SetupRead} {s : State}
    (configuring : s.window.device = .configuring) (reading : s.window.setupRead = some r)
    (fails : setupCheck r.address reply ≠ 0) :
    exec (.setupReadReturn reply) s = .next (setupFails (setupCheck r.address reply) (returnOp r.op s)) :=
  calc exec (.setupReadReturn reply) s
    _ = finishState (setupReturn reply s) := rfl
    _ = finishState (setupFails (setupCheck r.address reply) (returnOp r.op s)) := by
      rw [setupReturn_of_failing configuring reading fails]
    _ = _ := finishState_of_not_on nofun

/-- Settles O10: the clauses are the branches of `setupCheck_data`, and a failing code ends the setup by
`setupFails`. -/
theorem setupChecksReportFirstFailure : Obligations.SetupChecksReportFirstFailure := by
  refine ⟨fun address d => ?_, fun reply r s configuring reading fails =>
    exec_setupReadReturn_of_failing configuring reading fails⟩
  classical
  rw [setupCheck_data]
  exact ⟨rfl, fun entries => by simp [entries], fun entries bases => by simp [entries, bases],
    fun entries bases numbers => by simp [entries, bases, numbers],
    fun entries bases numbers trips => by simp [entries, bases, numbers, trips],
    fun entries bases numbers trips reserved => by simp [entries, bases, numbers, trips, reserved],
    fun entries bases numbers trips reserved => by simp [entries, bases, numbers, trips, reserved]⟩

end Sys2Proof.Machine
end

section
/-! Withdrawals and ABORT (section 1.6, R151, R175). A lane's withdrawal is one update of each block, said once by
`withdrawLane_eq`; several lanes withdrawn in turn leave what the tables say of all of them, whatever their order. -/

namespace Sys2Proof.Machine

/-! ### Updates of one lane and of the free list -/

theorem State.setLane_setLane (s : State) (l : LaneId) (x y : LaneState) :
    (s.setLane l x).setLane l y = s.setLane l y := by
  simp [State.setLane, setTable]

/-- The state with lane `l` changed by `f`. -/
def mapLane (l : LaneId) (f : LaneState → LaneState) (s : State) : State := s.setLane l (f (s.lane l))

theorem mapLane_lane (l k : LaneId) (f : LaneState → LaneState) (s : State) :
    (mapLane l f s).lane k = if l = k then f (s.lane l) else s.lane k := State.lane_setLane s l k _

theorem mapLane_lane_self (l : LaneId) (f : LaneState → LaneState) (s : State) :
    (mapLane l f s).lane l = f (s.lane l) := (mapLane_lane l l f s).trans (if_pos rfl)

@[simp] theorem mapLane_timebase (l : LaneId) (f : LaneState → LaneState) (s : State) :
    (mapLane l f s).timebase = s.timebase := rfl

@[simp] theorem mapLane_window (l : LaneId) (f : LaneState → LaneState) (s : State) :
    (mapLane l f s).window = s.window := rfl

theorem mapLane_of_same {l : LaneId} {f : LaneState → LaneState} {s : State} (same : f (s.lane l) = s.lane l) :
    mapLane l f s = s := by
  rw [mapLane, same, State.setLane_lane]

theorem mapLane_mapLane (l : LaneId) (f g : LaneState → LaneState) (s : State) :
    mapLane l g (mapLane l f s) = mapLane l (fun x => g (f x)) s := by
  rw [mapLane, mapLane_lane_self]
  exact State.setLane_setLane s l _ _

theorem freeBlocks_freeBlocks (first second : List Nat) (s : State) :
    freeBlocks second (freeBlocks first s) = freeBlocks (first ++ second) s := by
  simp [freeBlocks]

theorem freeBlocks_nil (s : State) : freeBlocks [] s = s := by simp [freeBlocks]

/-! ### The active entry (R18) -/

/-- The active entry's part of `LaneState.withdrawnBy`. -/
def LaneState.activeWithdrawn (w : Status) (now : Tick) (x : LaneState) : LaneState :=
  { x with active := x.active.map fun a =>
      match a.context with
      | .retiring _ _ => a
      | _ => { a with context := .retiring w now, blocks := [] } }

/-- The active entry's part of `LaneState.freedAtOnce`. -/
def LaneState.activeFreed (x : LaneState) : List Nat :=
  match x.active with
  | none => []
  | some a => match a.context with
    | .retiring _ _ => []
    | _ => a.blocks

/-- The context port's part of `LaneState.asksOnWithdrawal`. -/
def LaneState.contextAsks (l : LaneId) (x : LaneState) : List Task :=
  match x.active with
  | none => []
  | some a => match a.context with
    | .retiring _ _ => []
    | _ => [.ask (.context l)]

theorem withdrawActive_eq (l : LaneId) (w : Status) (s : State) :
    withdrawActive l w s =
      (freeBlocks (s.lane l).activeFreed (mapLane l (LaneState.activeWithdrawn w s.timebase) s),
        (s.lane l).contextAsks l) := by
  rw [withdrawActive, LaneState.activeFreed, LaneState.contextAsks]
  cases active : (s.lane l).active with
  | none =>
    have same : (s.lane l).activeWithdrawn w s.timebase = s.lane l := by
      rw [LaneState.activeWithdrawn, active, Option.map_none, ← active]
    rw [mapLane_of_same same, freeBlocks_nil]
  | some a =>
    cases context : a.context with
    | retiring =>
      have same : (s.lane l).activeWithdrawn w s.timebase = s.lane l := by
        simp only [LaneState.activeWithdrawn, active, Option.map_some, context]
        rw [← active]
      simp only [context, mapLane_of_same same, freeBlocks_nil]
    | _ =>
      simp only [mapLane, LaneState.activeWithdrawn, active, Option.map_some, context]
      rfl

/-! ### The staging queue (R19, R27, R36) -/

theorem Entry.withdraw_eq (w : Status) (e : Entry) : e.withdraw w = e.withdrawnBy w := by
  unfold Entry.withdraw Entry.withdrawnBy
  cases state : e.state with
  | loading => cases status : e.status <;> cases reading : e.reading <;> simp [Entry.fail, status]
  | _ => simp [Entry.fail]

theorem Entry.freedByWithdrawal_eq (e : Entry) :
    e.freedByWithdrawal =
      if e.state = .failed ∨ (e.state = .loading ∧ (e.status.isSome = true ∨ e.reading.isSome = true)) then []
      else e.blocks := by
  unfold Entry.freedByWithdrawal
  cases state : e.state with
  | loading => cases status : e.status <;> cases reading : e.reading <;> simp
  | _ => simp

/-- The staging queue's part of `LaneState.withdrawnBy`. -/
def LaneState.stagingWithdrawn (w : Status) (x : LaneState) : LaneState :=
  { x with staging := x.staging.map (Entry.withdrawnBy w) }

theorem withdrawStaging_eq (l : LaneId) (w : Status) (s : State) :
    withdrawStaging l w s =
      withdrawRequests l (freeBlocks ((s.lane l).staging.flatMap Entry.freedByWithdrawal)
        (mapLane l (LaneState.stagingWithdrawn w) s)) := by
  rw [withdrawStaging, funext (Entry.withdraw_eq w)]
  rfl

/-! ### The shadow pace (R111) -/

/-- The shadow pace's part of `LaneState.withdrawnBy`. -/
def LaneState.shadowResolved (w : Status) (l : LaneId) (now : Tick) (x : LaneState) : LaneState :=
  { x with shadow := none, outbox := x.outbox ++ x.shadowCompletion l w now }

theorem resolveShadow_eq (l : LaneId) (w : Status) (s : State) :
    resolveShadow l w s =
      (mapLane l (LaneState.shadowResolved w l s.timebase) s,
        if (s.lane l).shadow.isSome = true ∧ (s.lane l).outbox = [] then [.ask (.retune l)] else []) := by
  rw [resolveShadow]
  cases shadow : (s.lane l).shadow with
  | none =>
    rw [mapLane_of_same]
    · rfl
    · rw [LaneState.shadowResolved, LaneState.shadowCompletion, shadow, List.append_nil, ← shadow]
  | some sh =>
    have lane : mapLane l (LaneState.shadowResolved w l s.timebase) s = s.setLane l { s.lane l with
        shadow := none
        outbox := (s.lane l).outbox ++ [retuneCompletion l sh.tag sh.arrival s.timebase w] } := by
      simp only [mapLane, LaneState.shadowResolved, LaneState.shadowCompletion, shadow]
      rfl
    rw [lane]
    simp only [pushOutbox, State.lane_setLane, if_true, State.setLane_setLane, tasksIf]
    cases outbox : (s.lane l).outbox <;> rfl

/-! ### The withdrawal of one lane -/

theorem freeBlocks_mapLane (bs : List Nat) (l : LaneId) (f : LaneState → LaneState) (s : State) :
    freeBlocks bs (mapLane l f s) = mapLane l f (freeBlocks bs s) := by
  cases s
  rfl

theorem withdrawRequests_mapLane (k l : LaneId) (f : LaneState → LaneState) (s : State) :
    withdrawRequests k (mapLane l f s) = mapLane l f (withdrawRequests k s) := by
  cases s
  rfl

theorem releaseLane_mapLane (k l : LaneId) (f : LaneState → LaneState) (s : State) :
    releaseLane k (mapLane l f s) = mapLane l f (releaseLane k s) := by
  cases s
  rfl

theorem LaneState.freedAtOnce_eq (x : LaneState) :
    x.freedAtOnce = x.activeFreed ++ x.staging.flatMap Entry.freedByWithdrawal := by
  rw [funext Entry.freedByWithdrawal_eq]
  rfl

theorem LaneState.asksOnWithdrawal_eq (l : LaneId) (x : LaneState) :
    x.asksOnWithdrawal l =
      x.contextAsks l ++ if x.shadow.isSome = true ∧ x.outbox = [] then [.ask (.retune l)] else [] := rfl

/-- A lane's withdrawal: its claim, its ready bits, its request and its pins go, its blocks are freed, and the lane is
as `LaneState.withdrawnBy` says. -/
theorem withdrawLane_eq (l : LaneId) (w : Status) (s : State) :
    withdrawLane l w s =
      (mapLane l (LaneState.withdrawnBy w l s.timebase)
        (releaseLane l (withdrawRequests l (freeBlocks (s.lane l).freedAtOnce (leaveGroups l (withdrawClaim l s))))),
      (s.lane l).asksOnWithdrawal l) := by
  simp only [withdrawLane, withdrawActive_eq, withdrawStaging_eq, resolveShadow_eq, freeBlocks_mapLane,
    withdrawRequests_mapLane, releaseLane_mapLane, mapLane_mapLane, mapLane_lane_self, freeBlocks_freeBlocks,
    freeBlocks_lane, withdrawRequests_lane, leaveGroups_lane, withdrawClaim_lane, mapLane_timebase, freeBlocks_timebase,
    withdrawRequests_timebase, leaveGroups_timebase, withdrawClaim_timebase, LaneState.freedAtOnce_eq,
    LaneState.asksOnWithdrawal_eq]
  rfl

/-! ### Groups that lanes leave (R69, R70) -/

/-- A group of whose ready lanes those of a mask stay: IDLE when it has lost its last one. -/
def Group.keeping (stay : LaneMask) (g : Group) : Group :=
  if g.state = .idle ∨ g.ready &&& stay = g.ready then g
  else if g.ready &&& stay = 0 then Group.idle
  else { g with ready := g.ready &&& stay }

theorem Group.without_eq (ls : List LaneId) (g : Group) : g.without ls = g.keeping (~~~maskOf ls) := rfl

theorem inMask_iff_and_not_laneBit_ne : ∀ (m : LaneMask) (l : LaneId), inMask m l = true ↔ m &&& ~~~laneBit l ≠ m := by
  decide

theorem Group.leave_eq (l : LaneId) (g : Group) : g.leave l = g.keeping (~~~laneBit l) := by
  have leaves : (g.state ≠ .idle ∧ inMask g.ready l = true) ↔
      ¬(g.state = .idle ∨ g.ready &&& ~~~laneBit l = g.ready) := by
    rw [inMask_iff_and_not_laneBit_ne, not_or]
  rw [Group.leave, Group.keeping, if_congr leaves rfl rfl, ite_not]

theorem and_eq_of_and_and_eq {w : Nat} {m a b : BitVec w} (all : m &&& (a &&& b) = m) : m &&& a = m := by
  calc m &&& a
    _ = m &&& (a &&& b) &&& a := by rw [all]
    _ = m &&& (a &&& b) := by ac_nf
    _ = m := all

/-- A group that some lanes and then others leave is as all of them leave it. -/
theorem Group.keeping_keeping (a b : LaneMask) (g : Group) : (g.keeping a).keeping b = g.keeping (a &&& b) := by
  by_cases idle : g.state = .idle
  · simp [Group.keeping, idle]
  by_cases allStay : g.ready &&& a = g.ready
  · have rest : g.ready &&& (a &&& b) = g.ready &&& b := by rw [← BitVec.and_assoc, allStay]
    have kept : g.keeping a = g := if_pos (.inr allStay)
    rw [kept, Group.keeping, Group.keeping, rest]
  have someLeave : g.ready &&& (a &&& b) ≠ g.ready := fun all => allStay (and_eq_of_and_and_eq all)
  have leave (stay : LaneMask) (some : g.ready &&& stay ≠ g.ready) : g.keeping stay =
      if g.ready &&& stay = 0 then Group.idle else { g with ready := g.ready &&& stay } :=
    if_neg (not_or.mpr ⟨idle, some⟩)
  rw [leave a allStay, leave _ someLeave]
  by_cases last : g.ready &&& a = 0
  · have none : g.ready &&& (a &&& b) = 0 := by
      rw [← BitVec.and_assoc, last]
      exact BitVec.zero_and
    rw [if_pos last, if_pos none]
    rfl
  · rw [if_neg last, Group.keeping]
    simp only [BitVec.and_assoc, idle, false_or]
    by_cases same : g.ready &&& (a &&& b) = g.ready &&& a
    · rw [if_pos same, same, if_neg last]
    · rw [if_neg same]

theorem Group.without_nil (g : Group) : g.without [] = g := if_pos (.inr BitVec.and_allOnes)

theorem Group.without_cons (l : LaneId) (ls : List LaneId) (g : Group) :
    g.without (l :: ls) = (g.leave l).without ls := by
  rw [Group.without_eq, Group.without_eq, Group.leave_eq, Group.keeping_keeping, ← BitVec.not_or]
  rfl

/-! ### Lanes withdrawn in turn -/

/-- A lane withdrawn with `w`, and then as `after` says: a lane's part of an ABORT or of a firing (R131, R175). -/
def withdrawThen (w : Status) (after : LaneState → LaneState) (l : LaneId) (s : State) : Effect :=
  ((withdrawLane l w s).1.setLane l (after ((withdrawLane l w s).1.lane l)), (withdrawLane l w s).2)

theorem withdrawThen_eq (w : Status) (after : LaneState → LaneState) (l : LaneId) (s : State) :
    withdrawThen w after l s =
      ({ s with
        lanes := setTable s.lanes l (after ((s.lane l).withdrawnBy w l s.timebase))
        alloc := { free := s.alloc.free ++ (s.lane l).freedAtOnce, queue := s.alloc.queue.filter (·.lane != l) }
        claims := s.claims.filter (·.lane != l)
        groups := mapTable (fun _ g => g.leave l) s.groups
        pins := mapTable (fun _ p => if p.owner = some l then p.release else p) s.pins },
      (s.lane l).asksOnWithdrawal l) := by
  rw [withdrawThen, withdrawLane_eq]
  refine Prod.ext ((mapLane_mapLane l _ after _).trans ?_) rfl
  cases s
  rfl

/-- The lanes `ls`, withdrawn with `w` in the order of the list and each then as `after` says: `s` before, `u` after,
and what their ports ask (R18, R19, R27, R31, R53, R54, R69, R70, R111). -/
structure WithdrawnInTurn (w : Status) (after : LaneState → LaneState) (ls : List LaneId) (s u : State)
    (asks : List Task) : Prop where
  rest : u = { s with lanes := u.lanes, alloc := u.alloc, claims := u.claims, groups := u.groups, pins := u.pins }
  lanes : ∀ l, u.lane l = if l ∈ ls then after ((s.lane l).withdrawnBy w l s.timebase) else s.lane l
  free : u.alloc.free = s.alloc.free ++ ls.flatMap fun l => (s.lane l).freedAtOnce
  queue : u.alloc.queue = s.alloc.queue.filter fun r => decide (r.lane ∉ ls)
  claims : u.claims = s.claims.filter fun c => decide (c.lane ∉ ls)
  pins : ∀ n : PinId, u.pin n = if ∃ l ∈ ls, (s.pin n).owner = some l then (s.pin n).released else s.pin n
  groups : ∀ g, u.group g = (s.group g).without ls
  asks : asks = ls.flatMap fun l => (s.lane l).asksOnWithdrawal l

theorem WithdrawnInTurn.nil (w : Status) (after : LaneState → LaneState) (s : State) :
    WithdrawnInTurn w after [] s s [] where
  rest := rfl
  lanes l := by simp
  free := by simp
  queue := by simp
  claims := by simp
  pins n := by simp
  groups g := (Group.without_nil _).symm
  asks := rfl

theorem withdrawnInTurn_withdrawThen (w : Status) (after : LaneState → LaneState) (l : LaneId) (s : State) :
    WithdrawnInTurn w after [l] s (withdrawThen w after l s).1 (withdrawThen w after l s).2 := by
  have others {α : Type} (f : α → LaneId) (xs : List α) :
      (xs.filter fun x => f x != l) = xs.filter fun x => decide (f x ∉ [l]) :=
    List.filter_congr fun x _ => by simp [bne, beq_eq_decide]
  rw [withdrawThen_eq]
  constructor
  case rest => rfl
  case lanes =>
    intro k
    refine (setTable_get s.lanes l k _).trans ?_
    simp only [List.mem_singleton, eq_comm (a := k)]
    split
    case isTrue here => subst here; rfl
    case isFalse => rfl
  case free => exact congrArg (s.alloc.free ++ ·) (List.append_nil _).symm
  case queue => exact others AllocRequest.lane s.alloc.queue
  case claims => exact others Claim.lane s.claims
  case pins =>
    intro n
    rw [State.pin_eq, State.pin_eq]
    exact (mapTable_get _ s.pins n).trans (if_congr (by simp) rfl rfl)
  case groups =>
    intro g
    rw [Group.without_cons, Group.without_nil]
    exact mapTable_get _ s.groups g
  case asks => exact (List.append_nil _).symm

theorem WithdrawnInTurn.cons {w : Status} {after : LaneState → LaneState} {l : LaneId} {ls : List LaneId}
    {s t u : State} {first later : List Task} (h1 : WithdrawnInTurn w after [l] s t first)
    (h2 : WithdrawnInTurn w after ls t u later) (fresh : l ∉ ls) :
    WithdrawnInTurn w after (l :: ls) s u (first ++ later) := by
  have timebase : t.timebase = s.timebase := by rw [h1.rest]
  have untouched (k : LaneId) (hk : k ∈ ls) : t.lane k = s.lane k := by
    rw [h1.lanes, if_neg]
    rintro ⟨⟩
    · exact fresh hk
    · contradiction
  constructor
  case rest => exact h2.rest.trans (by rw [h1.rest])
  case lanes =>
    intro k
    rw [h2.lanes, timebase]
    by_cases later : k ∈ ls
    · rw [if_pos later, if_pos (List.mem_cons_of_mem l later), untouched k later]
    · rw [if_neg later, h1.lanes]
      simp [later]
  case free =>
    rw [h2.free, h1.free, List.append_assoc, List.flatMap_cons, List.flatMap_nil, List.append_nil]
    exact congrArg (fun bs => s.alloc.free ++ ((s.lane l).freedAtOnce ++ bs))
      (List.flatMap_congr fun k hk => by rw [untouched k hk])
  case queue =>
    rw [h2.queue, h1.queue, List.filter_filter]
    exact List.filter_congr fun r _ => by simp [Bool.and_comm]
  case claims =>
    rw [h2.claims, h1.claims, List.filter_filter]
    exact List.filter_congr fun c _ => by simp [Bool.and_comm]
  case pins =>
    intro n
    rw [h2.pins, h1.pins]
    by_cases mine : (s.pin n).owner = some l
    · simp [mine, PinEntry.released]
    · simp [mine]
  case groups =>
    intro g
    rw [h2.groups, h1.groups, Group.without_cons, Group.without_nil, ← Group.without_cons]
  case asks =>
    rw [h2.asks, h1.asks, List.flatMap_cons, List.flatMap_nil, List.append_nil]
    exact congrArg ((s.lane l).asksOnWithdrawal l ++ ·) (List.flatMap_congr fun k hk => by rw [untouched k hk])

theorem withdrawnInTurn_eachLane (w : Status) (after : LaneState → LaneState) {ls : List LaneId} (distinct : ls.Nodup)
    (s : State) :
    WithdrawnInTurn w after ls s (eachLane (withdrawThen w after) ls s).1 (eachLane (withdrawThen w after) ls s).2 := by
  induction ls generalizing s with
  | nil => exact .nil w after s
  | cons l ls ih =>
    obtain ⟨fresh, distinct⟩ := List.nodup_cons.mp distinct
    exact .cons (withdrawnInTurn_withdrawThen w after l s) (ih distinct _) fresh

/-! ### A withdrawal event (R27, R54, R175) -/

theorem maskOf_perm {order ls : List LaneId} (perm : order.Perm ls) : maskOf order = maskOf ls :=
  perm.foldr_eq' (fun _ _ _ _ _ => by ac_rfl) 0

theorem ownsAny_iff (l : LaneId) (s : State) : ownsAny l s = true ↔ OwnsPin l s := by
  simp only [ownsAny, OwnsPin, State.pin_eq, List.any_eq_true, beq_iff_eq, Vector.get_eq_getElem, List.mem_iff_getElem]
  constructor
  · rintro ⟨_, ⟨n, inTable, rfl⟩, owned⟩
    exact ⟨⟨n, by simpa using inTable⟩, by simpa using owned⟩
  · rintro ⟨n, owned⟩
    exact ⟨_, ⟨n, by simp, rfl⟩, by simpa using owned⟩

theorem arrange_choices {α : Type} (xs : List α) (s : State) : ∃ n, (arrange xs s).2 = { s with choices := n } := by
  obtain same | counted := arrange_state xs s
  · exact ⟨s.choices, same⟩
  · exact ⟨s.choices + 1, counted⟩

/-- The lanes `ls` withdrawn in one event, in a free order, and the work that follows. -/
def withdrawAll (w : Status) (after : LaneState → LaneState) (ls : List LaneId) (s : State) : Effect :=
  afterWithdrawal s ls (eachLane (withdrawThen w after) (arrange ls s).1 (arrange ls s).2)

/-- What a withdrawal event leaves does not depend on the order of its lanes, but for the free list. -/
theorem WithdrawnInTurn.withdrawal {w : Status} {after : LaneState → LaneState} {order ls : List LaneId} {s u : State}
    {asks : List Task} (h : WithdrawnInTurn w after order s u asks) (perm : order.Perm ls) {work : List Task}
    (follows : work.Perm ((if ls = [] then [] else [.look]) ++ (if ∃ l ∈ ls, OwnsPin l s then [.examine] else [])
      ++ asks ++ ls.map .take)) :
    Withdrawal w ls after s u work where
  lanes l := (h.lanes l).trans (if_congr perm.mem_iff rfl rfl)
  free := ⟨order, perm, h.free⟩
  queue := h.queue.trans (by simp only [perm.mem_iff])
  claims := h.claims.trans (by simp only [perm.mem_iff])
  pins n := (h.pins n).trans (if_congr (by simp only [perm.mem_iff]) rfl rfl)
  groups g := (h.groups g).trans (by rw [Group.without_eq, Group.without_eq, maskOf_perm perm])
  work := by
    refine follows.trans ?_
    rw [h.asks]
    exact ((perm.flatMap_right _).append_left _).append_right _

/-- A withdrawal is said of neither the registers nor the count of choices. -/
theorem Withdrawal.congr {w : Status} {ls : List LaneId} {after : LaneState → LaneState} {s s' u u' : State}
    {work : List Task} (h : Withdrawal w ls after s u work)
    (before : s' = { s with window := s'.window, choices := s'.choices })
    (left : u' = { u with window := u'.window, choices := u'.choices }) : Withdrawal w ls after s' u' work := by
  rw [before, left]
  exact
    { lanes := h.lanes
      free := h.free
      queue := h.queue
      claims := h.claims
      pins := h.pins
      groups := h.groups
      work := h.work }

/-- The work that follows a withdrawal event: one look, one examination when pins were released, and the ports' requests
and the takings in a free order. -/
theorem afterWithdrawal_work (before : State) (ls : List LaneId) (e : Effect) :
    (afterWithdrawal before ls e).2.Perm
      ((if ls = [] then [] else [.look]) ++ (if ∃ l ∈ ls, OwnsPin l before then [.examine] else [])
        ++ e.2 ++ ls.map .take) := by
  have look : tasksIf (!ls.isEmpty) [.look] = if ls = [] then [] else [Task.look] := by
    cases ls <;> rfl
  have examine : tasksIf (ls.any fun l => ownsAny l before) [.examine] =
      if ∃ l ∈ ls, OwnsPin l before then [Task.examine] else [] :=
    if_congr (by simp [ownsAny_iff]) rfl rfl
  rw [afterWithdrawal, look, examine, List.append_assoc _ e.2]
  exact (arrange_perm _ _).append_left _

theorem withdrawAll_inTurn (w : Status) (after : LaneState → LaneState) {ls : List LaneId} (distinct : ls.Nodup)
    (s : State) :
    ∃ (order : List LaneId) (e : Effect) (first last : Nat), order.Perm ls
      ∧ WithdrawnInTurn w after order { s with choices := first } e.1 e.2
      ∧ withdrawAll w after ls s = ({ e.1 with choices := last }, (afterWithdrawal s ls e).2) := by
  have perm := arrange_perm ls s
  obtain ⟨first, counted⟩ := arrange_choices ls s
  have inTurn := withdrawnInTurn_eachLane w after (perm.nodup_iff.mpr distinct) (arrange ls s).2
  rw [withdrawAll]
  generalize eachLane (withdrawThen w after) (arrange ls s).1 (arrange ls s).2 = e at *
  obtain ⟨last, left⟩ := arrange_choices (e.2 ++ ls.map Task.take) e.1
  exact ⟨_, e, first, last, perm, counted ▸ inTurn, Prod.ext left rfl⟩

theorem withdrawAll_withdrawal (w : Status) (after : LaneState → LaneState) {ls : List LaneId} (distinct : ls.Nodup)
    (s : State) :
    Withdrawal w ls after s (withdrawAll w after ls s).1 (withdrawAll w after ls s).2 := by
  obtain ⟨order, e, first, last, perm, inTurn, all⟩ := withdrawAll_inTurn w after distinct s
  rw [all]
  exact (inTurn.withdrawal perm (afterWithdrawal_work s ls e)).congr rfl rfl

/-- A withdrawal event changes no other block. -/
theorem withdrawAll_rest (w : Status) (after : LaneState → LaneState) {ls : List LaneId} (distinct : ls.Nodup)
    {s u : State} {work : List Task} (h : withdrawAll w after ls s = (u, work)) :
    u = { s with lanes := u.lanes, alloc := u.alloc, claims := u.claims, groups := u.groups, pins := u.pins
                 choices := u.choices } := by
  obtain ⟨order, e, first, last, -, inTurn, all⟩ := withdrawAll_inTurn w after distinct s
  obtain ⟨rfl, -⟩ := Prod.mk.inj (all.symm.trans h)
  exact congrArg (fun x : State => { x with choices := last }) inTurn.rest

/-! ### ABORT (R151, R175) -/

theorem abortWork_eq (m : LaneMask) (s : State) :
    abortWork m s = withdrawAll .aborted LaneState.skipToTail (abortLanes m s) s := rfl

theorem abortLanes_eq (m : LaneMask) (s : State) :
    abortLanes m s = allLanes.filter fun l => m.getLsbD l.val
      && decide ((s.lane l).run = .run ∨ (s.lane l).run = .tripped ∨ (s.lane l).run = .faulted) := by
  have acts (r : RunState) : r.abortActs = decide (r = .run ∨ r = .tripped ∨ r = .faulted) := by cases r <;> rfl
  simp only [abortLanes, lanesOf, List.filter_filter, acts, inMask, Bool.and_comm]

theorem abortLanes_nodup (m : LaneMask) (s : State) : (abortLanes m s).Nodup :=
  ((by decide : allLanes.Nodup).filter _).filter _

theorem LaneState.skipToTail_eq (x : LaneState) :
    x.skipToTail =
      (let n := (x.tail + x.entries - x.consumer) % x.entries
      { x with
        run := .stopped, reserved := false, consumer := x.tail
        fetch := (match x.fetch with | .live op => .discarded op | f => f)
        skip := if n = 0 then x.skip
          else some (match x.skip with
            | none => ⟨BitVec.ofNat 32 (min n (2 ^ 32 - 1)), x.staging.length⟩
            | some k => ⟨BitVec.ofNat 32 (min (k.count.toNat + n) (2 ^ 32 - 1)), k.place⟩) }) := by
  have added (n : Nat) : addSkip 0 n = BitVec.ofNat 32 (min n (2 ^ 32 - 1)) :=
    congrArg (fun k => BitVec.ofNat 32 (min k (2 ^ 32 - 1))) (Nat.zero_add n)
  have noted (n : Nat) : x.skipNoted n = if n = 0 then x.skip
      else some (match x.skip with
        | none => ⟨BitVec.ofNat 32 (min n (2 ^ 32 - 1)), x.staging.length⟩
        | some k => ⟨BitVec.ofNat 32 (min (k.count.toNat + n) (2 ^ 32 - 1)), k.place⟩) := by
    rw [LaneState.skipNoted, ← added]
    cases x.skip <;> rfl
  have discarded : x.fetch.discard = match x.fetch with | .live op => .discarded op | f => f := by
    cases x.fetch <;> rfl
  rw [LaneState.skipToTail, noted, discarded]
  rfl

theorem exec_abort_of_on {s : State} (m : LaneMask) (on : s.window.device = .on) :
    exec (.abort m) s = .next (hostPort (settle (abortWork m (acceptCommand 4 m s)))) := if_pos on

/-- Settles O16: ABORT is the withdrawal of its lanes in one event, each of which then skips to its tail. -/
theorem abortWithdrawsAndSkips : Obligations.AbortWithdrawsAndSkips := by
  intro m s on ls
  have lanes : abortLanes m (acceptCommand 4 m s) = ls := abortLanes_eq m _
  have distinct : ls.Nodup := lanes ▸ abortLanes_nodup m _
  have meaning := exec_abort_of_on m on
  have withdrawal := withdrawAll_withdrawal .aborted LaneState.skipToTail distinct (acceptCommand 4 m s)
  rw [abortWork_eq, lanes] at meaning
  cases all : withdrawAll .aborted LaneState.skipToTail ls (acceptCommand 4 m s) with
  | mk u work =>
    have rest := withdrawAll_rest _ _ distinct all
    rw [all] at meaning withdrawal
    rw [funext LaneState.skipToTail_eq] at withdrawal
    rw [acceptCommand_eq] at rest
    exact ⟨u, work, meaning, withdrawal.congr rfl rfl, rest⟩

end Sys2Proof.Machine
end

section
/-! The commands of CONTROL (R168). A command is decoded from its code and its lane mask, and each of the five commands
answers acceptance and refusal as one statement, `ControlAnswers`, puts it. -/

namespace Sys2Proof.Machine

/-! ### What an event leaves of the registers -/

theorem hostPort_window (s : State) : (hostPort s).window = s.window := (hostPort_frame s).window

theorem window_of_finish {e : Effect} {t : State} (h : finish e = .next t) : t.window = e.1.window := by
  rw [← Host.Outcome.next.inj h]
  exact (finish_frame e).window

theorem window_of_finishState {s t : State} (h : finishState s = .next t) : t.window = s.window := by
  rw [← Host.Outcome.next.inj h, hostPort_window]

/-! ### Decoding a command (R168, R183) -/

/-- The command of a code and a lane mask. -/
def controlCommand (code : Byte) (mask : LaneMask) : Instr :=
  if code = 1 then .enable
  else if code = 2 then .disable
  else if code = 3 then .reset
  else if code = 4 then .abort mask
  else if code = 5 then .start mask
  else .unknownCommand code

theorem decodeWrite_control (w : Word) :
    decodeWrite .control 0xF w = controlCommand (w.extractLsb' 0 8) (w.extractLsb' 8 4) := rfl

theorem toNat_controlCode (w : Word) : (w.extractLsb' 0 8 : Byte).toNat = w.toNat % 256 := by simp

theorem toNat_controlMask (w : Word) : (w.extractLsb' 8 4 : LaneMask).toNat = w.toNat / 256 % 16 := by
  simp [BitVec.extractLsb'_toNat, Nat.shiftRight_eq_div_pow]

/-- ABORT and START alone look at the lane mask. -/
theorem controlCommand_congr_mask {code : Byte} (masked : ¬(code = 4 ∨ code = 5)) (mask other : LaneMask) :
    controlCommand code mask = controlCommand code other := by
  obtain ⟨notAbort, notStart⟩ := not_or.mp masked
  simp only [controlCommand, notAbort, notStart, if_false]

theorem unknownCode_of_not_command {code : Byte} (other : code ≠ 1 ∧ code ≠ 2 ∧ code ≠ 3 ∧ code ≠ 4 ∧ code ≠ 5) :
    unknownCode code = true := by
  obtain ⟨h1, h2, h3, h4, h5⟩ := other
  rw [unknownCode, Bool.or_eq_true, beq_iff_eq, BitVec.ule_iff_le]
  bv_omega

/-! ### Acceptance and refusal (R168) -/

/-- Whether a command code is accepted in a device state. -/
def CodeAccepted (code : Nat) (d : DeviceState) : Prop :=
  (code = 1 ∧ d = .off) ∨ code = 2 ∨ code = 3 ∨ ((code = 4 ∨ code = 5) ∧ d = .on)

/-- The command `c` of a code and a lane mask is answered as the table of R168 says. -/
structure ControlAnswers (c : Instr) (code mask : Nat) (s : State) : Prop where
  wellFormed : c.wellFormed = true
  refused : ¬ CodeAccepted code s.window.device →
    exec c s = .next { s with window := { s.window with refused := true } }
  accepted : CodeAccepted code s.window.device → ∃ t, exec c s = .next t
    ∧ (readReg t .control).toNat =
        (if code = 3 then 0 else if code = 4 ∨ code = 5 then code + 256 * mask else code)
    ∧ (code ≠ 3 → t.window.refused = s.window.refused)
  idle : CodeAccepted code s.window.device → (code = 4 ∨ code = 5) → mask = 0 →
    exec c s = .next { s with window := { s.window with control := BitVec.ofNat 32 code } }

theorem refuseCommand_of_portQuiet {s : State} (quiet : PortQuiet s) :
    refuseCommand s = .next { s with window := { s.window with refused := true } } :=
  finishState_of_portQuiet (quiet.withWindow rfl)

theorem acceptCommand_of_portQuiet {s : State} (quiet : PortQuiet s) (code : Byte) (mask : LaneMask) :
    PortQuiet (acceptCommand code mask s) := quiet.withWindow rfl

theorem toNat_controlWord (code : Byte) (mask : LaneMask) :
    (controlWord code mask).toNat = code.toNat + 256 * mask.toNat := by
  have hcode : code.toNat < 2 ^ 8 := code.isLt
  have hmask : mask.toNat < 2 ^ 4 := mask.isLt
  rw [controlWord_eq, BitVec.toNat_ofNat]
  omega

theorem exec_enable_of_off {s : State} (off : s.window.device = .off) :
    exec .enable s = .next (beginSetup (acceptCommand 1 0 s)) :=
  (if_pos off).trans (finishState_of_not_on nofun)

theorem controlAnswers_enable {s : State} (quiet : PortQuiet s) (mask : Nat) : ControlAnswers .enable 1 mask s where
  wellFormed := rfl
  refused no := (if_neg fun off => no (.inl ⟨rfl, off⟩)).trans (refuseCommand_of_portQuiet quiet)
  accepted yes := by
    have off : s.window.device = .off := by simpa [CodeAccepted] using yes
    exact ⟨_, exec_enable_of_off off, toNat_controlWord 1 0, fun _ => rfl⟩
  idle _ masked := by simp at masked

theorem controlAnswers_disable (s : State) (mask : Nat) : ControlAnswers .disable 2 mask s where
  wellFormed := rfl
  refused no := absurd (.inr (.inl rfl)) no
  accepted _ := by
    by_cases off : s.window.device = .off
    · exact ⟨_, exec_disable_of_off off, rfl, fun _ => rfl⟩
    · exact ⟨_, exec_disable_of_not_off off, toNat_controlWord 2 0, fun _ => rfl⟩
  idle _ masked := by simp at masked

theorem controlAnswers_reset (s : State) (mask : Nat) : ControlAnswers .reset 3 mask s where
  wellFormed := rfl
  refused no := absurd (.inr (.inr (.inl rfl))) no
  accepted _ := ⟨_, rfl, rfl, fun other => absurd rfl other⟩
  idle _ masked := by simp at masked

/-- A command on lanes is refused outside ON. In ON it is recorded in CONTROL and its effect leaves the registers; with
an empty mask it has none. -/
theorem controlAnswers_of_lanes {c : Instr} {code : Byte} {mask : LaneMask} {s : State} (quiet : PortQuiet s)
    (masked : code = 4 ∨ code = 5) (wellFormed : c.wellFormed = true)
    (refused : s.window.device ≠ .on → exec c s = refuseCommand s)
    (accepted : s.window.device = .on → ∃ t, exec c s = .next t ∧ t.window = (acceptCommand code mask s).window)
    (idle : s.window.device = .on → mask = 0 → exec c s = finishState (acceptCommand code mask s)) :
    ControlAnswers c code.toNat mask.toNat s := by
  have lanes : code.toNat = 4 ∨ code.toNat = 5 := masked.imp (congrArg _) (congrArg _)
  have acceptedIff : CodeAccepted code.toNat s.window.device ↔ s.window.device = .on := by
    obtain code4 | code5 := lanes <;> simp [CodeAccepted, *]
  refine ⟨wellFormed, fun no => ?_, fun yes => ?_, fun yes _ empty => ?_⟩
  · exact (refused (mt acceptedIff.mpr no)).trans (refuseCommand_of_portQuiet quiet)
  · obtain ⟨t, meaning, window⟩ := accepted (acceptedIff.mp yes)
    refine ⟨t, meaning, ?_, fun _ => by rw [window]; rfl⟩
    rw [if_neg (by omega), if_pos lanes, ← toNat_controlWord]
    exact congrArg (fun x : Window => x.control.toNat) window
  · have none : mask = 0 := BitVec.eq_of_toNat_eq empty
    rw [idle (acceptedIff.mp yes) none, finishState_of_portQuiet (acceptCommand_of_portQuiet quiet code mask),
      acceptCommand_eq, empty]
    rfl

theorem withdrawAll_nil (w : Status) (after : LaneState → LaneState) (s : State) : withdrawAll w after [] s = (s, []) :=
  rfl

theorem abortLanes_zero (s : State) : abortLanes 0 s = [] := by simp [abortLanes_eq]

theorem withdrawAll_window (w : Status) (after : LaneState → LaneState) {ls : List LaneId} (distinct : ls.Nodup)
    (s : State) : (withdrawAll w after ls s).1.window = s.window :=
  (congrArg State.window (withdrawAll_rest w after distinct Prod.mk.eta.symm)).trans rfl

theorem abortWork_window (m : LaneMask) (s : State) : (abortWork m s).1.window = s.window :=
  withdrawAll_window _ _ (abortLanes_nodup m s) s

theorem controlAnswers_abort {s : State} (quiet : PortQuiet s) (mask : LaneMask) :
    ControlAnswers (.abort mask) 4 mask.toNat s := by
  refine controlAnswers_of_lanes (code := 4) quiet (.inl rfl) rfl (fun off => if_neg off) (fun on => ?_)
    fun on empty => ?_
  · exact ⟨_, exec_abort_of_on mask on, (finish_frame _).window.trans (abortWork_window mask _)⟩
  · rw [exec_abort_of_on mask on, abortWork_eq, empty, abortLanes_zero, withdrawAll_nil, settle_nil]
    rfl

theorem mapTable_of_same {α : Type} {n : Nat} {f : Nat → α → α} (v : Vector α n) (same : ∀ i x, f i x = x) :
    mapTable f v = v :=
  Vector.ext fun i hi => (mapTable_get f v ⟨i, hi⟩).trans (same i _)

theorem startLanes_zero (s : State) : startLanes 0 s = s := by
  rw [startLanes, mapTable_of_same s.lanes fun l x => by simp]

theorem controlAnswers_start {s : State} (quiet : PortQuiet s) (mask : LaneMask) :
    ControlAnswers (.start mask) 5 mask.toNat s := by
  refine controlAnswers_of_lanes (code := 5) quiet (.inr rfl) rfl (fun off => if_neg off) (fun on => ?_)
    fun on empty => ?_
  · exact ⟨_, exec_start_of_on mask on, hostPort_window _⟩
  · rw [exec_start_of_on mask on, empty, startLanes_zero]

theorem controlAnswers_unknown {s : State} (quiet : PortQuiet s) {code : Byte}
    (other : code ≠ 1 ∧ code ≠ 2 ∧ code ≠ 3 ∧ code ≠ 4 ∧ code ≠ 5) (mask : Nat) :
    ControlAnswers (.unknownCommand code) code.toNat mask s := by
  have unknown := unknownCode_of_not_command other
  have never : ¬ CodeAccepted code.toNat s.window.device := by
    obtain ⟨h1, h2, h3, h4, h5⟩ := other
    unfold CodeAccepted
    bv_omega
  exact ⟨unknown, fun _ => (if_pos unknown).trans (refuseCommand_of_portQuiet quiet), fun yes => absurd yes never,
    fun yes => absurd yes never⟩

theorem controlAnswers_controlCommand {s : State} (quiet : PortQuiet s) (code : Byte) (mask : LaneMask) :
    ControlAnswers (controlCommand code mask) code.toNat mask.toNat s := by
  unfold controlCommand
  split_ifs with h1 h2 h3 h4 h5
  · exact h1 ▸ controlAnswers_enable quiet _
  · exact h2 ▸ controlAnswers_disable s _
  · exact h3 ▸ controlAnswers_reset s _
  · exact h4 ▸ controlAnswers_abort quiet mask
  · exact h5 ▸ controlAnswers_start quiet mask
  · exact controlAnswers_unknown quiet ⟨h1, h2, h3, h4, h5⟩ _

/-- Settles O5: a word's command is that of its code and mask, and each command is answered as `ControlAnswers` says. -/
theorem commandsAcceptedByDeviceState : Obligations.CommandsAcceptedByDeviceState := by
  intro w s quiet c code mask d accepted
  have answers := controlAnswers_controlCommand quiet (w.extractLsb' 0 8) (w.extractLsb' 8 4)
  rw [← decodeWrite_control, toNat_controlCode, toNat_controlMask] at answers
  refine ⟨answers.wellFormed, fun v sameCode sameMask => ?_, answers.refused, answers.accepted, answers.idle⟩
  have codes : v.extractLsb' 0 8 = (w.extractLsb' 0 8 : Byte) :=
    BitVec.eq_of_toNat_eq (by rw [toNat_controlCode, toNat_controlCode, sameCode])
  rw [decodeWrite_control, codes]
  obtain same | unmasked := sameMask
  · have masks : v.extractLsb' 8 4 = (w.extractLsb' 8 4 : LaneMask) :=
      BitVec.eq_of_toNat_eq (by rw [toNat_controlMask, toNat_controlMask, same])
    rw [masks]
    rfl
  · refine controlCommand_congr_mask (fun masked => unmasked ?_) _ _
    have := masked.imp (congrArg BitVec.toNat) (congrArg BitVec.toNat)
    rwa [toNat_controlCode] at this

end Sys2Proof.Machine
end

section
/-! The device state (R169). An event that is no register write, no reset, no setup return and no write error leaves
the registers, for each of its operations does; the others are taken one by one. -/

namespace Sys2Proof.Machine

/-! ### Operations of the lanes leave the registers -/

theorem arrange_window {α : Type} (xs : List α) (s : State) : (arrange xs s).2.window = s.window :=
  (arrange_frame xs s).window

theorem retire_window (l : LaneId) (a : Active) (st : Status) (s : State) : (retire l a st s).1.window = s.window :=
  (retire_frame l a st s).window

theorem placeRequest_window (l : LaneId) (s : State) : (placeRequest l s).window = s.window :=
  (placeRequest_frame l s).window

theorem resolveShadow_window (l : LaneId) (w : Status) (s : State) : (resolveShadow l w s).1.window = s.window := by
  rw [resolveShadow_eq]
  rfl

theorem withdrawLane_window (l : LaneId) (w : Status) (s : State) : (withdrawLane l w s).1.window = s.window := by
  simp [withdrawLane_eq]

theorem eachLane_window {f : LaneId → State → Effect} (each : ∀ l s, (f l s).1.window = s.window) (ls : List LaneId)
    (s : State) : (eachLane f ls s).1.window = s.window := by
  induction ls generalizing s with
  | nil => rfl
  | cons l ls ih => exact (ih _).trans (each l s)

theorem gather_window (e : Effect) : (gather e).1.window = e.1.window := arrange_window _ _

theorem afterWithdrawal_window (before : State) (ls : List LaneId) (e : Effect) :
    (afterWithdrawal before ls e).1.window = e.1.window := arrange_window _ _

/-! ### Returns of the link -/

theorem arriveRetune_window (l : LaneId) (r : Bytes 64) (s : State) : (arriveRetune l r s).1.window = s.window := by
  unfold arriveRetune
  split
  · split
    · exact resolveShadow_window l .superseded s
    · rfl
  · rfl

theorem stageRecord_window (l : LaneId) (e : Entry) (s : State) : (stageRecord l e s).1.window = s.window := by
  unfold stageRecord
  split
  · exact placeRequest_window l _
  · rfl

theorem recordArrives_window (l : LaneId) (r : Bytes 64) (s : State) : (recordArrives l r s).1.window = s.window := by
  unfold recordArrives
  split
  · exact arriveRetune_window l r _
  · exact stageRecord_window l _ _

theorem fetchReturn_window (l : LaneId) (reply : ReadReply 64) (s : State) :
    (fetchReturn l reply s).1.window = s.window := by
  unfold fetchReturn
  split
  case h_1 => rfl
  case h_2 => rfl
  case h_3 => cases reply with
    | data r => exact recordArrives_window l r _
    | busError => rfl

theorem discardedReturn_window (l : LaneId) (s : State) : (discardedReturn l s).window = s.window := by
  unfold discardedReturn
  split <;> rfl

theorem acceptLoad_window (l : LaneId) (place : Nat) (e : Entry) (data : Bytes 256) (s : State) :
    (acceptLoad l place e data s).1.window = s.window := by
  unfold acceptLoad
  split <;> rfl

theorem loadReturn_window (l : LaneId) (place : Nat) (reply : LoadReturn) (s : State) :
    (loadReturn l place reply s).1.window = s.window := by
  unfold loadReturn
  split
  case h_1 => rfl
  case h_2 =>
    split
    case h_1 =>
      split
      case h_1 => rfl
      case h_2 => exact acceptLoad_window ..
      case h_3 => rfl
    case h_2 => rfl

theorem withdrawnReturn_window (l : LaneId) (place : Nat) (s : State) :
    (withdrawnReturn l place s).1.window = s.window := by
  unfold withdrawnReturn
  split
  case h_1 => rfl
  case h_2 => split <;> rfl

theorem placeCarry_window (i : SetId) (s : State) : (placeCarry i s).window = s.window := by
  unfold placeCarry
  split <;> rfl

theorem entryFreed_window (source : PostSource) (s : State) : (entryFreed source s).1.window = s.window := by
  cases source with
  | general =>
    change (grantOldestPoster s).1.window = s.window
    unfold grantOldestPoster
    split
    · rfl
    · exact (grantPort_frame _ _).window
  | trip i => exact placeCarry_window i s

theorem completionDone_window (s : State) : (completionDone s).1.window = s.window := by
  unfold completionDone
  split
  · exact entryFreed_window _ _
  · rfl

theorem captureDone_window (s : State) : (captureDone s).window = s.window := by
  unfold captureDone
  split <;> rfl

/-! ### The tick's look and its firings -/

theorem recordFiring_window (i : SetId) (lanes : LaneMask) (s : State) :
    (recordFiring i lanes s).window = s.window := by
  unfold recordFiring
  split
  · split <;> rfl
  · rfl

theorem fireSet_window (i : SetId) (s : State) : (fireSet i s).1.window = s.window := by
  calc (fireSet i s).1.window
    _ = (eachLane tripLane (arrange (tripLanes (s.trip i).laneMask s) s).1
          (arrange (tripLanes (s.trip i).laneMask s) s).2).1.window := recordFiring_window _ _ _
    _ = (arrange (tripLanes (s.trip i).laneMask s) s).2.window :=
      eachLane_window (f := tripLane) (fun l s => withdrawLane_window l .tripped s) _ _
    _ = s.window := arrange_window _ _

theorem fireSets_window (is : List SetId) (s : State) : (fireSets is s).1.window = s.window := by
  induction is generalizing s with
  | nil => rfl
  | cons i is ih => exact (ih _).trans (fireSet_window i s)

theorem handOver_window (changed : Pins) (s : State) : (handOver changed s).1.window = s.window := by
  unfold handOver
  exact (afterWithdrawal_window _ _ _).trans ((fireSets_window _ _).trans (arrange_window _ _))

theorem takeLook_window (s : State) : (takeLook s).1.window = s.window := by
  obtain ⟨-, taken⟩ | ⟨-, none⟩ := takeLook_cases s
  · rw [taken]
    exact handOver_window _ _
  · rw [none]

/-! ### Timed events -/

theorem claimTimesOut_window (l : LaneId) (s : State) : (claimTimesOut l s).1.window = s.window := by
  unfold claimTimesOut
  split
  · rfl
  · split
    · exact retire_window l _ _ _
    · rfl

theorem memberTimesOut_window (l : LaneId) (s : State) : (memberTimesOut l s).1.window = s.window := by
  unfold memberTimesOut
  split
  · rfl
  · exact retire_window l _ _ s

theorem groupGivesUp_window (g : GroupId) (s : State) : (groupGivesUp g s).1.window = s.window :=
  (gather_window _).trans ((eachLane_window memberTimesOut_window _ _).trans (arrange_window _ _))

theorem vectorBoundary_window (l : LaneId) (a : Active) (e : Engine) (j : Nat) (v : Vec) (s : State) :
    (vectorBoundary l a e j v s).1.window = s.window := by
  simp only [vectorBoundary, State.setActive_eq, State.setLane_window]
  split
  · exact resolveShadow_window l _ _
  · rfl

theorem enterPlaying_window (l : LaneId) (a : Active) (late grouped : Bool) (v : Vec) (s : State) :
    (enterPlaying l a late grouped v s).1.window = s.window :=
  (vectorBoundary_window l _ _ _ v _).trans (resolveShadow_window l .superseded s)

theorem memberStarts_window (late : Bool) (l : LaneId) (s : State) : (memberStarts late l s).1.window = s.window := by
  unfold memberStarts
  split
  · rfl
  · split
    · rfl
    · exact enterPlaying_window ..

theorem groupFires_window (g : GroupId) (s : State) : (groupFires g s).1.window = s.window :=
  (gather_window _).trans ((eachLane_window (memberStarts_window _) _ _).trans (arrange_window _ _))

theorem expireTimer_window (s : State) (r : Ring) : (expireTimer s r).window = s.window := by cases r <;> rfl

section
variable {s t : State}

theorem execClaimTimeout_window {l : LaneId} (h : execClaimTimeout l s = .next t) : t.window = s.window := by
  unfold execClaimTimeout at h
  split at h
  · exact (window_of_finish h).trans (claimTimesOut_window l s)
  · exact window_of_finishState h

theorem execGroupDeadline_window {g : GroupId} (h : execGroupDeadline g s = .next t) : t.window = s.window := by
  unfold execGroupDeadline at h
  split at h
  · exact (window_of_finish h).trans (groupGivesUp_window g s)
  · exact window_of_finishState h

theorem execGroupStartTick_window {g : GroupId} (h : execGroupStartTick g s = .next t) : t.window = s.window := by
  unfold execGroupStartTick at h
  split at h
  · split at h
    · exact (window_of_finish h).trans (groupFires_window g s)
    · cases h
  · exact window_of_finishState h

theorem execMarkDue_window {l : LaneId} (h : execMarkDue l s = .next t) : t.window = s.window := by
  unfold execMarkDue at h
  split at h
  · exact window_of_finishState h
  · exact (window_of_finish h).trans (retire_window l _ _ s)

theorem execBurstStart_window {l : LaneId} (h : execBurstStart l s = .next t) : t.window = s.window := by
  unfold execBurstStart at h
  split at h
  · exact window_of_finishState h
  · split at h
    · cases h
    · exact (window_of_finish h).trans (enterPlaying_window ..)

theorem execStrobe_window {l : LaneId} (h : execStrobe l s = .next t) : t.window = s.window := by
  unfold execStrobe at h
  split at h
  · exact window_of_finishState h
  · split at h
    · exact (window_of_finishState h).trans rfl
    · exact window_of_finishState h

theorem execPeriodEnd_window {l : LaneId} (h : execPeriodEnd l s = .next t) : t.window = s.window := by
  unfold execPeriodEnd at h
  split at h
  case h_1 => exact window_of_finishState h
  case h_2 =>
    split at h
    case isFalse => exact window_of_finishState h
    case isTrue =>
      split at h
      case h_1 => exact (window_of_finish h).trans (retire_window l _ _ s)
      case h_2 => exact (window_of_finishState h).trans rfl
      case h_3 =>
        split at h
        · cases h
        · exact (window_of_finish h).trans (vectorBoundary_window ..)

theorem execHoldoffExpiry_window {r : Ring} (h : execHoldoffExpiry r s = .next t) : t.window = s.window := by
  unfold execHoldoffExpiry at h
  split at h
  · exact (window_of_finishState h).trans (expireTimer_window s r)
  · exact window_of_finishState h

theorem execRawLevelChange_window {level hold : Pins} (h : execRawLevelChange level hold s = .next t) :
    t.window = s.window := by
  unfold execRawLevelChange at h
  split at h
  · exact (window_of_finish h).trans (takeLook_window _)
  · exact (window_of_finishState h).trans rfl

theorem execQualifierSample_window (h : execQualifierSample s = .next t) : t.window = s.window := by
  unfold execQualifierSample at h
  split at h
  · exact (window_of_finish h).trans (takeLook_window s)
  · exact window_of_finishState h

theorem execStaleReturn_window {op : OpId} (h : execStaleReturn op s = .next t) : t.window = s.window := by
  unfold execStaleReturn at h
  split at h
  · exact window_of_finishState h
  · exact (window_of_finishState h).trans rfl

theorem execRegisterWrite_window {reg : Reg} {byteEnables : BitVec 4} {value : Word}
    (h : execRegisterWrite reg byteEnables value s = .next t) : t.window = s.window := by
  unfold execRegisterWrite at h
  split at h
  · exact window_of_finishState h
  · cases h

/-! ### The commands that leave the registers -/

/-- Whether a command can change no register: it is no full write to one, no reset, no setup return and no write
error. -/
def leavesRegisters : Instr → Bool
  | .enable | .disable | .reset | .abort _ | .start _ | .unknownCommand _ | .submit _ _ | .acknowledgeCompletion _
  | .acknowledgeCapture _ | .statusWrite _ | .setupLoWrite _ | .setupHiWrite _ | .powerOn | .resetPin
  | .setupReadReturn _ | .completionWriteError | .captureWriteError => false
  | _ => true

theorem exec_window {c : Instr} (leaves : leavesRegisters c = true) (h : exec c s = .next t) :
    t.window = s.window := by
  cases c with
  | registerWrite reg be value => exact execRegisterWrite_window (value := value) h
  | rawLevelChange => exact execRawLevelChange_window h
  | qualifierSample => exact execQualifierSample_window h
  | hostPortTurn => exact window_of_finishState h
  | recordArrival l r => exact (window_of_finish h).trans (fetchReturn_window l _ s)
  | fetchBusError l => exact (window_of_finish h).trans (fetchReturn_window l _ s)
  | discardedFetchReturn l => exact (window_of_finishState h).trans (discardedReturn_window l s)
  | loadReadReturn l k => exact (window_of_finish h).trans (loadReturn_window l k _ s)
  | loadFault l k => exact (window_of_finish h).trans (loadReturn_window l k _ s)
  | withdrawnLoadReturn l k => exact (window_of_finish h).trans (withdrawnReturn_window l k s)
  | staleReturn => exact execStaleReturn_window h
  | completionWriteDone => exact (window_of_finish h).trans (completionDone_window s)
  | captureWriteDone => exact (window_of_finishState h).trans (captureDone_window s)
  | claimTimeout => exact execClaimTimeout_window h
  | groupDeadline => exact execGroupDeadline_window h
  | groupStartTick => exact execGroupStartTick_window h
  | markDue => exact execMarkDue_window h
  | burstStart => exact execBurstStart_window h
  | strobe => exact execStrobe_window h
  | periodEnd => exact execPeriodEnd_window h
  | holdoffExpiry => exact execHoldoffExpiry_window h
  | _ => cases leaves

/-! ### Writes that leave the device state (R168, R169) -/

theorem device_of_finishState {u : State} (h : finishState u = .next t) (same : u.window.device = s.window.device) :
    t.window.device = s.window.device := (congrArg Window.device (window_of_finishState h)).trans same

theorem device_of_refuseCommand (h : refuseCommand s = .next t) : t.window.device = s.window.device :=
  device_of_finishState h rfl

theorem execAbort_device {m : LaneMask} (h : exec (.abort m) s = .next t) : t.window.device = s.window.device := by
  by_cases on : s.window.device = .on
  · have window := (window_of_finish ((if_pos on).symm.trans h)).trans (abortWork_window m (acceptCommand 4 m s))
    exact (congrArg Window.device window).trans rfl
  · exact device_of_refuseCommand ((if_neg on).symm.trans h)

theorem execStart_device {m : LaneMask} (h : exec (.start m) s = .next t) : t.window.device = s.window.device := by
  by_cases on : s.window.device = .on
  · exact device_of_finishState ((exec_start_of_on m on).symm.trans h) rfl
  · exact device_of_refuseCommand ((if_neg on).symm.trans h)

theorem execUnknownCommand_device {code : Byte} (h : execUnknownCommand code s = .next t) :
    t.window.device = s.window.device := by
  unfold execUnknownCommand at h
  split at h
  · exact device_of_refuseCommand h
  · cases h

theorem execSubmit_device {l : LaneId} {tail : BitVec 12} (h : execSubmit l tail s = .next t) :
    t.window.device = s.window.device := by
  unfold execSubmit at h
  split at h
  · split at h <;> exact device_of_finishState h rfl
  · exact device_of_finishState h rfl

theorem acknowledgeRing_device {head : Nat} {r : RingWriter} {i : RingInterrupt}
    {moved : RingWriter → RingInterrupt → State} (same : ∀ x y, (moved x y).window = s.window) :
    (acknowledgeRing head r i moved s).window.device = s.window.device := by
  unfold acknowledgeRing
  split
  · split
    · rfl
    · rw [same]
  · rfl

theorem execAcknowledge_device {head : BitVec 12} {c : Instr}
    (ring : c = .acknowledgeCompletion head ∨ c = .acknowledgeCapture head) (h : exec c s = .next t) :
    t.window.device = s.window.device := by
  by_cases on : s.window.device = .on
  · obtain rfl | rfl := ring
    · rw [exec_acknowledgeCompletion_of_on head on] at h
      exact device_of_finishState h (acknowledgeRing_device fun _ _ => rfl)
    · rw [exec_acknowledgeCapture_of_on head on] at h
      exact device_of_finishState h (acknowledgeRing_device fun _ _ => rfl)
  · obtain ⟨completion, capture⟩ := exec_acknowledge_of_not_on head on
    obtain rfl | rfl := ring
    · exact device_of_finishState (completion.symm.trans h) rfl
    · exact device_of_finishState (capture.symm.trans h) rfl

/-! ### The events that move the device state (R169) -/

theorem execEnable_device (h : exec .enable s = .next t) :
    t.window.device = if s.window.device = .off then .configuring else s.window.device := by
  by_cases off : s.window.device = .off
  · rw [if_pos off, ← Host.Outcome.next.inj ((exec_enable_of_off off).symm.trans h)]
    rfl
  · rw [if_neg off]
    exact device_of_refuseCommand ((if_neg off).symm.trans h)

theorem execDisable_device (h : exec .disable s = .next t) : t.window.device = .off := by
  by_cases off : s.window.device = .off
  · rw [← Host.Outcome.next.inj ((exec_disable_of_off off).symm.trans h)]
    exact off
  · rw [← Host.Outcome.next.inj ((exec_disable_of_not_off off).symm.trans h)]
    rfl

end

theorem setupReturn_of_passing {reply : ReadReply 256} {r : SetupRead} {s : State}
    (configuring : s.window.device = .configuring) (reading : s.window.setupRead = some r)
    (passes : setupCheck r.address reply = 0) : ∃ d, setupReturn reply s = enterOn d (returnOp r.op s) := by
  rw [setupReturn, configuring, reading]
  cases reply with
  | data d => exact ⟨d, if_pos passes⟩
  | busError => cases passes

theorem setupReturn_device (reply : ReadReply 256) (s : State) :
    (setupReturn reply s).window.device =
      match s.window.device, s.window.setupRead with
      | .configuring, some r => if setupCheck r.address reply = 0 then .on else .off
      | d, _ => d := by
  cases device : s.window.device with
  | configuring =>
    cases reading : s.window.setupRead with
    | none => simp only [setupReturn, device, reading]
    | some r =>
      by_cases passes : setupCheck r.address reply = 0
      · obtain ⟨d, entered⟩ := setupReturn_of_passing device reading passes
        rw [entered]
        exact (if_pos passes).symm
      · rw [setupReturn_of_failing device reading passes]
        exact (if_neg passes).symm
  | _ => simp only [setupReturn, device]

theorem OffIsEmpty.on_of_writing {s : State} (empty : OffIsEmpty s)
    (writing : s.completionRing.writing ≠ none ∨ s.captureRing.writing ≠ none) : s.window.device = .on := by
  by_contra off
  obtain ⟨-, -, -, -, -, -, -, completion, capture, -⟩ := empty off
  obtain busy | busy := writing
  · exact busy completion
  · exact busy capture

theorem execCompletionWriteError_device {s t : State} (empty : OffIsEmpty s)
    (h : execCompletionWriteError s = .next t) :
    t.window.device =
      if s.window.device = .on ∧ s.completionRing.writing ≠ none then .fault else s.window.device := by
  unfold execCompletionWriteError at h
  split at h
  case h_1 idle => rw [if_neg fun busy => busy.2 idle, window_of_finishState h]
  case h_2 op writing =>
    have busy : s.completionRing.writing ≠ none := by simp [writing]
    rw [if_pos ⟨empty.on_of_writing (.inl busy), busy⟩, window_of_finishState h]
    rfl

theorem execCaptureWriteError_device {s t : State} (empty : OffIsEmpty s) (h : execCaptureWriteError s = .next t) :
    t.window.device = if s.window.device = .on ∧ s.captureRing.writing ≠ none then .fault else s.window.device := by
  unfold execCaptureWriteError at h
  split at h
  case h_1 idle => rw [if_neg fun busy => busy.2 idle, window_of_finishState h]
  case h_2 op writing =>
    have busy : s.captureRing.writing ≠ none := by simp [writing]
    rw [if_pos ⟨empty.on_of_writing (.inr busy), busy⟩, window_of_finishState h]
    rfl

/-- Settles O4: the events of the table move the device state as their own lemmas say; of the others, the writes to the
window leave the device state and the rest leaves every register. -/
theorem deviceStateMovesOnlyByItsEvents : Obligations.DeviceStateMovesOnlyByItsEvents := by
  refine ⟨fun c s t empty h => ?_, fun reply r s t configuring reading fails h => ?_, fun s low => irqLine_of_low low⟩
  · cases c with
    | enable => exact execEnable_device h
    | disable => exact execDisable_device h
    | reset | powerOn | resetPin => rw [← Host.Outcome.next.inj h]; rfl
    | setupReadReturn reply => exact (congrArg _ (window_of_finishState h)).trans (setupReturn_device reply s)
    | completionWriteError => exact execCompletionWriteError_device empty h
    | captureWriteError => exact execCaptureWriteError_device empty h
    | abort => exact execAbort_device h
    | start => exact execStart_device h
    | unknownCommand => exact execUnknownCommand_device h
    | submit => exact execSubmit_device h
    | acknowledgeCompletion => exact execAcknowledge_device (.inl rfl) h
    | acknowledgeCapture => exact execAcknowledge_device (.inr rfl) h
    | statusWrite | setupLoWrite | setupHiWrite => exact device_of_finishState h rfl
    | _ => exact congrArg Window.device (exec_window rfl h)
  · rw [← Host.Outcome.next.inj ((exec_setupReadReturn_of_failing configuring reading fails).symm.trans h)]
    rfl

end Sys2Proof.Machine
end

section
/-! The records that the part writes (R177, R180). A record is the bytes of its layout, a list of whole-byte fields, and
from such bytes each field reads back at the sum of the sizes before it. -/

namespace Sys2Proof.Machine

/-! ### Fields as bytes (R177) -/

theorem length_leBytes (k v : Nat) : (leBytes k v).length = k := by
  induction k generalizing v with
  | zero => rfl
  | succ k ih => exact congrArg (· + 1) (ih (v / 256))

theorem leValue_leBytes (k v : Nat) : leValue (leBytes k v) = v % 256 ^ k := by
  induction k generalizing v with
  | zero => exact (Nat.mod_one v).symm
  | succ k ih => rw [leBytes, leValue, ih, BitVec.toNat_ofNat, show 2 ^ 8 = 256 from rfl, Nat.pow_succ', Nat.mod_mul]

theorem length_fieldBytes {k : Nat} (v : BitVec (8 * k)) : (fieldBytes v).length = k := by
  rw [fieldBytes, Nat.mul_div_cancel_left k (by decide), length_leBytes]

theorem leValue_fieldBytes {k : Nat} (v : BitVec (8 * k)) : leValue (fieldBytes v) = v.toNat := by
  have fits : v.toNat < 256 ^ k := by
    rw [show 256 = 2 ^ 8 from rfl, ← Nat.pow_mul]
    exact v.isLt
  rw [fieldBytes, Nat.mul_div_cancel_left k (by decide), leValue_leBytes, Nat.mod_eq_of_lt fits]

theorem fieldBytes_byte (b : Byte) : fieldBytes b = [b] :=
  congrArg (fun x => [x]) ((BitVec.ofNat_toNat 8 b).trans (BitVec.setWidth_eq b))

/-! ### Layouts -/

/-- A field of a layout: its size in bytes and its value. -/
abbrev ByteField := (size : Nat) × BitVec (8 * size)

/-- The bytes of a layout, its fields one after the other. -/
def layoutBytes : List ByteField → List Byte
  | [] => []
  | f :: fs => fieldBytes f.2 ++ layoutBytes fs

/-- From offset `off` on, the bytes `d` hold the fields one after the other, and nothing behind them. -/
def FieldsAt (d : List Byte) : Nat → List ByteField → Prop
  | off, [] => d.length = off
  | off, f :: fs => leValue ((d.drop off).take f.1) = f.2.toNat ∧ FieldsAt d (off + f.1) fs

theorem fieldsAt_append_layoutBytes (before : List Byte) (fs : List ByteField) :
    FieldsAt (before ++ layoutBytes fs) before.length fs := by
  induction fs generalizing before with
  | nil => exact congrArg List.length (List.append_nil before)
  | cons f fs ih =>
    refine ⟨?_, ?_⟩
    · rw [List.drop_left, layoutBytes, List.take_left' (length_fieldBytes f.2), leValue_fieldBytes]
    · have behind := ih (before ++ fieldBytes f.2)
      rwa [List.append_assoc, List.length_append, length_fieldBytes] at behind

theorem fieldsAt_layoutBytes (fs : List ByteField) : FieldsAt (layoutBytes fs) 0 fs := fieldsAt_append_layoutBytes [] fs

/-! ### Completion records (R180) -/

theorem bit_mul (b : Bool) (n : Nat) : n * bit b = if b then n else 0 := by cases b <;> simp [bit]

/-- Phase, LATE, PINS_HELD and GROUPED: byte 7 of a completion record. -/
def Completion.flags (phase : Bool) (c : Completion) : Byte :=
  BitVec.ofNat 8 (bit phase + 2 * bit c.late + 4 * bit c.pinsHeld + 8 * bit c.grouped)

theorem Completion.toNat_flags (phase : Bool) (c : Completion) :
    (c.flags phase).toNat = (if phase then 2 ^ 0 else 0) + (if c.late then 2 ^ 1 else 0)
      + (if c.pinsHeld then 2 ^ 2 else 0) + (if c.grouped then 2 ^ 3 else 0) := by
  have phaseBit := bit_le_one phase
  have lateBit := bit_le_one c.late
  have heldBit := bit_le_one c.pinsHeld
  have groupedBit := bit_le_one c.grouped
  simp only [← bit_mul]
  rw [Completion.flags, BitVec.toNat_ofNat]
  omega

theorem lor_two_pow_mul {a k : Nat} (low : a < 2 ^ k) (b : Nat) : a ||| 2 ^ k * b = a + 2 ^ k * b := by
  rw [Nat.lor_comm, Nat.add_comm, Nat.two_pow_add_eq_or_of_lt low]

/-- Lanes, set and count of a TRIP share no bit of the detail, so that OR adds them. -/
theorem Detail.toNat_word_trip (lanes : LaneMask) (i : SetId) (count : Half) :
    (Detail.trip lanes i count).word.toNat = lanes.toNat + 2 ^ 8 * i.val + 2 ^ 16 * count.toNat := by
  have hlanes : lanes.toNat < 2 ^ 4 := lanes.isLt
  have hcount : count.toNat < 2 ^ 16 := count.isLt
  simp only [Detail.word, BitVec.toNat_or, BitVec.toNat_shiftLeft, BitVec.toNat_setWidth, BitVec.toNat_ofNat,
    Nat.shiftLeft_eq, Nat.mul_comm _ (2 ^ _)]
  rw [Nat.mod_eq_of_lt (a := lanes.toNat) (by omega), Nat.mod_eq_of_lt (a := i.val) (by omega),
    Nat.mod_eq_of_lt (a := count.toNat) (by omega), Nat.mod_eq_of_lt (by omega), Nat.mod_eq_of_lt (by omega),
    lor_two_pow_mul (a := lanes.toNat) (by omega), lor_two_pow_mul (by omega)]

/-- The layout of a completion record. -/
def Completion.layout (phase : Bool) (c : Completion) : List ByteField :=
  [⟨4, c.tag⟩, ⟨1, c.lane⟩, ⟨1, c.kind⟩, ⟨1, c.status.code⟩, ⟨1, c.flags phase⟩,
    ⟨4, c.stats.vectors⟩, ⟨4, c.stats.mismatches⟩, ⟨2, c.stats.firstIndex⟩, ⟨2, c.stats.firstPass⟩,
    ⟨6, c.stats.firstObserved⟩, ⟨2, 0⟩, ⟨6, c.startTime⟩, ⟨2, 0⟩, ⟨6, c.endTime⟩, ⟨2, 0⟩, ⟨4, c.detail.word⟩]

theorem Completion.bytes_eq_layoutBytes (phase : Bool) (c : Completion) :
    c.bytes phase = layoutBytes (c.layout phase) := by
  have byte4 : [c.lane, c.kind, c.status.code, c.flags phase]
      = fieldBytes c.lane ++ (fieldBytes c.kind ++ (fieldBytes c.status.code ++ fieldBytes (c.flags phase))) := by
    simp only [fieldBytes_byte, List.cons_append, List.nil_append]
  rw [Completion.bytes, ← Completion.flags, byte4]
  simp only [List.append_assoc, Completion.layout, layoutBytes, List.append_nil]
  rfl

/-! ### Capture records (R180) -/

/-- Level, owner and phase: byte 7 of a capture record. -/
def CaptureRecord.flags (phase : Bool) (c : CaptureRecord) : Byte :=
  BitVec.ofNat 8 (bit c.level + (match c.owner with | some l => 2 + 4 * l.val | none => 0) + 128 * bit phase)

theorem CaptureRecord.toNat_flags (phase : Bool) (c : CaptureRecord) :
    (c.flags phase).toNat = (if c.level then 1 else 0)
      + (match c.owner with | none => 0 | some l => 2 + 4 * l.val) + (if phase then 128 else 0) := by
  have levelBit := bit_le_one c.level
  have phaseBit := bit_le_one phase
  rw [CaptureRecord.flags, BitVec.toNat_ofNat, ← bit_mul phase, ← bit_mul c.level]
  cases c.owner <;> dsimp only <;> omega

/-- The layout of a capture record. -/
def CaptureRecord.layout (phase : Bool) (c : CaptureRecord) : List ByteField :=
  [⟨6, c.time⟩, ⟨1, BitVec.ofNat 8 c.pin.val⟩, ⟨1, c.flags phase⟩, ⟨2, c.dropped⟩, ⟨6, c.previous⟩]

theorem CaptureRecord.bytes_eq_layoutBytes (phase : Bool) (c : CaptureRecord) :
    c.bytes phase = layoutBytes (c.layout phase) := by
  have byte2 : [BitVec.ofNat 8 c.pin.val, c.flags phase]
      = fieldBytes (BitVec.ofNat 8 c.pin.val) ++ fieldBytes (c.flags phase) := by
    simp only [fieldBytes_byte, List.cons_append, List.nil_append]
  have written : c.bytes phase = fieldBytes c.time ++ [BitVec.ofNat 8 c.pin.val, c.flags phase]
      ++ fieldBytes c.dropped ++ fieldBytes c.previous := by
    cases owner : c.owner <;> simp only [CaptureRecord.bytes, CaptureRecord.flags, owner]
  rw [written, byte2]
  simp only [List.append_assoc, CaptureRecord.layout, layoutBytes, List.append_nil]

theorem CaptureRecord.toNat_pin (c : CaptureRecord) : (BitVec.ofNat 8 c.pin.val).toNat = c.pin.val := by
  rw [BitVec.toNat_ofNat]
  omega

/-- Settles O47: both records are the bytes of their layouts, whose fields read back at their offsets. -/
theorem recordBytesFollowTheLayouts : Obligations.RecordBytesFollowTheLayouts := by
  refine ⟨by decide, fun phase c => ?_, fun phase c => ?_⟩
  · have fields := fieldsAt_layoutBytes (c.layout phase)
    rw [← c.bytes_eq_layoutBytes] at fields
    obtain ⟨tag, lane, kind, status, flags, vectors, mismatches, firstIndex, firstPass, firstObserved, zero26,
      startTime, zero34, endTime, zero42, detail, length⟩ := fields
    refine ⟨length, tag, lane, kind, status, flags.trans (c.toNat_flags phase), vectors, mismatches, firstIndex,
      firstPass, firstObserved, zero26, startTime, zero34, endTime, zero42, detail.trans ?_⟩
    cases c.detail with
    | none => rfl
    | skip count => rfl
    | trip lanes i count => exact Detail.toNat_word_trip lanes i count
  · have fields := fieldsAt_layoutBytes (c.layout phase)
    rw [← c.bytes_eq_layoutBytes] at fields
    obtain ⟨time, pin, flags, dropped, previous, length⟩ := fields
    exact ⟨length, time, pin.trans c.toNat_pin, flags.trans (c.toNat_flags phase), dropped, previous⟩

end Sys2Proof.Machine
end

section
/-! The register window's layouts (R183). A word packed from fields that fit their widths reads each of them back at the
sum of the widths before it; STATUS is such a word. -/

namespace Sys2Proof.Machine

/-! ### Words packed from fields -/

/-- A field of a packed word: its width in bits and its value. -/
abbrev BitField := Nat × Nat

/-- The number that holds the fields one above the other, the first in the lowest bits. -/
def packBits : List BitField → Nat
  | [] => 0
  | f :: fs => f.2 + 2 ^ f.1 * packBits fs

/-- From bit `off` on, the number holds the fields one above the other, and only zeros above them. -/
def BitsAt (x : Nat) : Nat → List BitField → Prop
  | off, [] => x / 2 ^ off = 0
  | off, f :: fs => x / 2 ^ off % 2 ^ f.1 = f.2 ∧ BitsAt x (off + f.1) fs

theorem bitsAt_of_div_eq {x off : Nat} {fs : List BitField} (fit : ∀ f ∈ fs, f.2 < 2 ^ f.1)
    (above : x / 2 ^ off = packBits fs) : BitsAt x off fs := by
  induction fs generalizing off with
  | nil => exact above
  | cons f fs ih =>
    obtain ⟨fits, rest⟩ := List.forall_mem_cons.mp fit
    refine ⟨?_, ih rest ?_⟩
    · rw [above, packBits, Nat.add_mul_mod_self_left, Nat.mod_eq_of_lt fits]
    · rw [Nat.pow_add, ← Nat.div_div_eq_div_mul, above, packBits, Nat.add_mul_div_left _ _ (Nat.two_pow_pos _),
        Nat.div_eq_of_lt fits, Nat.zero_add]

theorem bitsAt_packBits {fs : List BitField} (fit : ∀ f ∈ fs, f.2 < 2 ^ f.1) : BitsAt (packBits fs) 0 fs :=
  bitsAt_of_div_eq fit (Nat.div_one _)

theorem packBits_lt {fs : List BitField} (fit : ∀ f ∈ fs, f.2 < 2 ^ f.1) :
    packBits fs < 2 ^ (fs.map Prod.fst).sum := by
  induction fs with
  | nil => exact Nat.one_pos
  | cons f fs ih =>
    obtain ⟨fits, rest⟩ := List.forall_mem_cons.mp fit
    rw [List.map_cons, List.sum_cons, Nat.pow_add, packBits]
    calc f.2 + 2 ^ f.1 * packBits fs < 2 ^ f.1 * (packBits fs + 1) := by rw [Nat.mul_succ, Nat.add_comm]; omega
      _ ≤ 2 ^ f.1 * 2 ^ (fs.map Prod.fst).sum := Nat.mul_le_mul_left _ (ih rest)

theorem getLsbD_of_bit {w : Nat} {x : BitVec w} {k : Nat} {b : Bool} (h : x.toNat / 2 ^ k % 2 = bit b) :
    x.getLsbD k = b := by
  rw [BitVec.getLsbD, Nat.testBit_eq_decide_div_mod_eq, h]
  cases b <;> rfl

/-! ### STATUS -/

theorem DeviceState.code_lt (d : DeviceState) : d.code < 2 ^ 2 := by cases d <;> decide

theorem RunState.code_lt (r : RunState) : r.code < 2 ^ 3 := by cases r <;> decide

theorem FaultCause.code_lt (c : FaultCause) : c.code < 2 ^ 4 := by cases c <;> decide

theorem bit_lt (b : Bool) : bit b < 2 ^ 1 := Nat.lt_succ_of_le (bit_le_one b)

/-- The layout of STATUS. -/
def statusLayout (s : State) : List BitField :=
  [(2, s.window.device.code), (3, (s.lane 0).run.code), (3, (s.lane 1).run.code), (3, (s.lane 2).run.code),
    (3, (s.lane 3).run.code), (1, bit (causeCQ s)), (1, bit (causeKQ s)), (1, bit (causeFault s)),
    (1, bit s.window.indexError), (1, bit s.window.refused), (1, bit s.window.setupError),
    (4, s.window.setupCode), (4, s.window.faultCause.code)]

theorem statusLayout_fit {s : State} (sound : WindowSound s) : ∀ f ∈ statusLayout s, f.2 < 2 ^ f.1 := by
  obtain ⟨-, setupCode, -⟩ := sound
  simp only [statusLayout, List.forall_mem_cons, DeviceState.code_lt, RunState.code_lt, FaultCause.code_lt, bit_lt,
    List.not_mem_nil, false_imp_iff, implies_true, and_true, true_and]
  omega

theorem bitsAt_statusWord {s : State} (sound : WindowSound s) : BitsAt (statusWord s).toNat 0 (statusLayout s) := by
  have fields := bitsAt_packBits (statusLayout_fit sound)
  have widths : ((statusLayout s).map Prod.fst).sum = 28 := rfl
  have packed := packBits_lt (statusLayout_fit sound)
  rw [widths] at packed
  have word : statusWord s = BitVec.ofNat 32 (packBits (statusLayout s)) :=
    congrArg (BitVec.ofNat 32) (by simp only [statusLayout, packBits]; ring)
  rwa [word, BitVec.toNat_ofNat, Nat.mod_eq_of_lt (by omega)]

/-! ### Offsets -/

theorem regAt_eq_none_iff (offset : Nat) : regAt offset = none ↔ ¬(offset % 4 = 0 ∧ offset < 0x20) := by
  simp only [regAt, registers, List.find?_eq_none, List.forall_mem_cons, List.not_mem_nil, Reg.offset, beq_iff_eq,
    false_imp_iff, implies_true, and_true]
  omega

/-! ### Full writes -/

theorem decodeControl_of_code {w : Word} {code : Byte} (h : w.toNat % 2 ^ 8 = code.toNat) :
    decodeWrite .control 0xF w = controlCommand code (w.extractLsb' 8 4) := by
  rw [decodeWrite_control, BitVec.eq_of_toNat_eq ((toNat_controlCode w).trans h)]

theorem toNat_lowIndex (w : Word) : (w.extractLsb' 0 12 : BitVec 12).toNat = w.toNat % 2 ^ 12 := by simp

theorem val_submitLane (w : Word) : (w.extractLsb' 30 2 : BitVec 2).toFin.val = w.toNat / 2 ^ 30 := by
  have : w.toNat < 2 ^ 32 := w.isLt
  rw [BitVec.val_toFin, BitVec.extractLsb'_toNat, Nat.shiftRight_eq_div_pow]
  omega

/-! ### IDENT and the setup address -/

theorem setupHi_append_setupLo (s : State) : readReg s .setupHi ++ readReg s .setupLo = s.window.setupAddress :=
  (BitVec.extractLsb'_append_extractLsb'_eq_extractLsb' rfl).trans BitVec.extractLsb'_eq_self

theorem toNat_readReg_ident (s : State) : (readReg s .ident).toNat = 0x5212C401 := rfl

theorem readReg_ident_fields (s : State) : (readReg s .ident).toNat / 2 ^ 24 = 0x52
    ∧ (readReg s .ident).toNat / 2 ^ 8 % 2 ^ 16 = 4804 ∧ (readReg s .ident).toNat % 2 ^ 8 = 1 := by
  rw [toNat_readReg_ident]
  decide

/-- Settles O6: STATUS reads back the fields it is packed from, a full write decodes by its fields' numbers, and the
offsets are those of the eight registers. -/
theorem registerLayouts : Obligations.RegisterLayouts := by
  refine ⟨fun s sound => ?_, fun w => ?_, fun s => ⟨rfl, rfl, rfl, rfl, rfl, rfl, rfl, rfl⟩,
    fun be w => ⟨rfl, rfl, rfl, rfl, rfl, rfl, rfl, rfl⟩, regAt_eq_none_iff, rfl, rfl, rfl⟩
  · obtain ⟨device, lane0, lane1, lane2, lane3, cq, kq, fault, indexError, refused, setupError, setupCode, faultCause,
      above⟩ := bitsAt_statusWord sound
    have lanes : ∀ n : LaneId, (statusWord s).toNat / 2 ^ (2 + 3 * n.val) % 8 = (s.lane n).run.code
      | 0 => lane0
      | 1 => lane1
      | 2 => lane2
      | 3 => lane3
    have highest : (statusWord s).toNat / 2 ^ 24 = s.window.faultCause.code := by
      have zero : (statusWord s).toNat / 2 ^ 28 = 0 := above
      have low : (statusWord s).toNat / 2 ^ 24 % 2 ^ 4 = s.window.faultCause.code := faultCause
      omega
    obtain ⟨vendor, part, revision⟩ := readReg_ident_fields s
    obtain ⟨control, -⟩ := sound
    exact ⟨rfl, vendor, part, revision, control, (congrArg (· % 4) (Nat.div_one _)).symm.trans device, lanes,
      getLsbD_of_bit cq, getLsbD_of_bit kq, getLsbD_of_bit fault, getLsbD_of_bit indexError, getLsbD_of_bit refused,
      getLsbD_of_bit setupError, setupCode, highest, setupHi_append_setupLo s, rfl, rfl, rfl⟩
  · exact ⟨⟨_, _, rfl, val_submitLane w, toNat_lowIndex w⟩, ⟨_, toNat_lowIndex w, rfl⟩,
      ⟨_, toNat_controlMask w, decodeControl_of_code (code := 4), decodeControl_of_code (code := 5)⟩,
      decodeControl_of_code (code := 1), decodeControl_of_code (code := 2), decodeControl_of_code (code := 3),
      rfl, rfl, rfl⟩

end Sys2Proof.Machine
end

section
/-! What one step can do, said once for all invariants: a step is a chain of moves, each of them one update of the
state together with what the code knows of the state when it makes the update. An invariant that every move keeps is
kept by every step, so its proof is a case for each move. -/

namespace Sys2Proof.Machine

/-! ### The moves -/

/-- Every part that an invariant of the blocks, pins, groups, queues, lanes, bursts or buffers speaks of is the same. -/
structure SameParts (s t : State) : Prop where
  lanes : t.lanes = s.lanes
  store : t.store = s.store
  alloc : t.alloc = s.alloc
  pins : t.pins = s.pins
  claims : t.claims = s.claims
  groups : t.groups = s.groups
  levels : t.qualifier.pins = s.qualifier.pins
  fifo : t.capture.fifo = s.capture.fifo
  captureRing : t.captureRing = s.captureRing
  items : t.post.items = s.post.items
  completionRing : t.completionRing = s.completionRing

/-- The Post Queue has an entry left for a record of `source` (R133, R154). -/
def PostQueue.hasRoom (q : PostQueue) : PostSource → Prop
  | .general => generalInUse q < 14
  | .trip i => slotTaken i q = false

/-- An active entry in RETIRING that holds no blocks. -/
def Active.done (a : Active) : Prop := (∃ st t, a.context = .retiring st t) ∧ a.blocks = []

/-- Lane `l`'s active entry is a claim that has not been granted. -/
def Claiming (s : State) (l : LaneId) : Prop := ∃ a, (s.lane l).active = some a ∧ a.context = .claiming

/-- Lane `l` is ready in no group. -/
def ReadyNowhere (s : State) (l : LaneId) : Prop := ∀ g, inMask (s.group g).ready l = false

/-- Lane `l`'s active entry `a₀` may leave its context: it does not wait in a group, or, if `G` held of the groups
before the step, the lane is ready in none. -/
def MayLeave (G : Prop) (s : State) (l : LaneId) (a₀ : Active) : Prop :=
  a₀.context ≠ .groupWait ∨ (G → ReadyNowhere s l)

/-- The vector boundary of play `j` of the active entry `a₀`, played on with the engine `e`: the next play of the one in
progress, or the first play of a burst whose wait is over (R15, R82). -/
def PlaysOn (a₀ : Active) (e : Engine) (j : Nat) : Prop :=
  (a₀.context = .playing e ∧ e.play < (burstOf a₀.record).sequenceLength ∧ j = e.play + 1)
    ∨ ((a₀.context = .groupWait ∨ a₀.kind = kindBurst ∧ ∃ t late, a₀.context = .timeWait t late)
      ∧ j = 1 ∧ ∃ v, e = Engine.begin_ (burstOf a₀.record) v)

/-- The engine that enters the vector boundary of play `j` with the vector `v`: a pass boundary looks at the shadow
pace (R82, R108). -/
def boundaryEngine (b : Burst) (shadow : Option Shadow) (e : Engine) (j : Nat) (v : Vec) : Engine :=
  let e₁ := { e with play := j, period := 1, gateResolved := false, vector := v }
  if b.passBoundary j then retuneEngine b shadow e₁ else e₁

/-- The active entry at the vector boundary of play `j` at `now` (R82). -/
def Active.atBoundary (shadow : Option Shadow) (e : Engine) (j : Nat) (v : Vec) (now : Tick) (a : Active) : Active :=
  { a with
    context := .playing ((boundaryEngine (burstOf a.record) shadow e j v).startPeriod now)
    stats := { a.stats with vectors := a.stats.vectors + 1 } }

/-- One update of the state that a step makes, with what the code knows when it makes it. `G` and `P` are what was
premised of the groups and of the Post Queue before the step; only a group's failure or start and the entry that a
completed write frees rest on them. -/
inductive Move (G P : Prop) : State → State → Prop where
  | aside {s t : State} (same : SameParts s t) : Move G P s t
  | notes {s : State} (f : Nat → PinEntry → PinEntry) (noted : ∀ n p, ∃ x, f n p = { p with earlier := x }) :
      Move G P s { s with pins := mapTable f s.pins }
  | look {s : State} : Move G P s { s with qualifier := lookQualifier s }
  | captured {s : State} (c : Capture) (fits : s.capture.fifo.length ≤ 32 → c.fifo.length ≤ 32)
      (grows : s.capture.fifo ≠ [] → c.fifo ≠ []) : Move G P s { s with capture := c }
  -- pins and claims
  | released {s : State} (l : LaneId) : Move G P s (releaseLane l s)
  | held {s : State} (l : LaneId) : Move G P s (holdLane l s)
  | driven {s : State} (l : LaneId) (v : Pins) : Move G P s (driveUpdate l v s)
  | claimGranted {s : State} (l : LaneId) (d e : Pins) (claims : (∃ c ∈ s.claims, c.lane = l) ∨ Claiming s l) :
      Move G P s (grantClaim l d e s)
  | claimsLeave {s : State} (cs : List Claim) (fewer : ∀ c ∈ cs, c ∈ s.claims) : Move G P s { s with claims := cs }
  | claimWaits {s : State} (c : Claim) (claiming : Claiming s c.lane) :
      Move G P s { s with claims := s.claims ++ [c] }
  -- groups
  | groupEnds {s : State} (g : GroupId) : Move G P s (s.setGroup g Group.idle)
  | groupJoined {s : State} {l : LaneId} {a : Active} {g : Group} (active : (s.lane l).active = some a)
      (claiming : a.context = .claiming)
      (joins : (s.group (burstOf a.record).group).arrive l (arrivalOf (burstOf a.record)) s.timebase = some g) :
      Move G P s (setContext l a .groupWait (s.setGroup (burstOf a.record).group g))
  -- blocks and loads
  | requestDropped {s : State} {r : AllocRequest} {rest : List AllocRequest} (queue : s.alloc.queue = r :: rest) :
      Move G P s { s with alloc := { s.alloc with queue := rest } }
  | requestPlaced {s : State} (l : LaneId) : Move G P s
      { s with alloc := { s.alloc with queue := s.alloc.queue ++ placedRequest l s } }
  | blocksGranted {s : State} {r : AllocRequest} {rest : List AllocRequest} {e : Entry}
      (queue : s.alloc.queue = r :: rest) (oldest : oldestWaiting (s.lane r.lane).staging = some e)
      (fits : r.need ≤ s.alloc.free.length) : Move G P s (movedBlocks r rest s)
  | stored {s : State} (m : List Host.Cell) (canonical : storeWf s.store = true → storeWf m = true) :
      Move G P s { s with store := m }
  | loadIssued {s : State} (l : LaneId) (op : OpId) :
      Move G P s (s.setStaging l (startOldestRead op (s.lane l).staging).2)
  | loadAccepted {s : State} {l : LaneId} {k : Nat} {e : Entry} (staged : entryAt l k s = some e)
      (loading : e.state = .loading) (unmarked : e.status = none) : Move G P s (setEntry l k e.accept s)
  | loadFailed {s : State} {l : LaneId} {k : Nat} {e : Entry} (st : Status) (staged : entryAt l k s = some e)
      (loading : e.state = .loading) : Move G P s (freeBlocks e.blocks (setEntry l k (e.fail st) s))
  -- fetch reads and arrivals
  | ringMoved {s : State} (l : LaneId) (consumer tail : Nat) :
      Move G P s (s.setLane l { s.lane l with consumer := consumer, tail := tail })
  | restarted {s : State} (m : LaneMask) : Move G P s (startLanes m s)
  | fetchIssued {s : State} {l : LaneId} (op : OpId) (can : (s.lane l).eligible = true) :
      Move G P s (s.setLane l { s.lane l with fetch := .live op, reserved := true })
  | fetchDropped {s : State} {l : LaneId} {op : OpId} (discarded : (s.lane l).fetch = .discarded op) :
      Move G P s (s.setLane l { s.lane l with fetch := .none })
  | recordStaged {s : State} {l : LaneId} {op : OpId} (r : Bytes 64) (consumer : Nat)
      (live : (s.lane l).fetch = .live op) (other : recordKind r ≠ kindRetune) :
      Move G P s (s.setLane l { s.lane l with
        consumer := consumer, fetch := .none, reserved := false
        staging := (s.lane l).staging ++ [treatRecord (s.lane l).run r] })
  | fetchFailed {s : State} {l : LaneId} {op : OpId} (live : (s.lane l).fetch = .live op) :
      Move G P s (s.setLane l { s.lane l with
        run := .faulted, fetch := .none, reserved := false, staging := (s.lane l).staging ++ [fetchFaultEntry] })
  | retuneRefused {s : State} {l : LaneId} {op : OpId} (consumer : Nat) (c : Completion)
      (live : (s.lane l).fetch = .live op) :
      Move G P s (s.setLane l { s.lane l with
        consumer := consumer, fetch := .none, reserved := false, outbox := (s.lane l).outbox ++ [c] })
  | shadowDeposited {s : State} {l : LaneId} {op : OpId} (r : Bytes 64) (consumer : Nat)
      (live : (s.lane l).fetch = .live op) (running : (s.lane l).run = .run) (valid : retuneValid r = true) :
      Move G P s (s.setLane l { s.lane l with
        consumer := consumer, fetch := .none, reserved := false, shadow := some (shadowOf r s.timebase)
        outbox := (s.lane l).outbox ++ (s.lane l).shadowCompletion l .superseded s.timebase })
  -- the active entry
  | taken {s : State} {l : LaneId} {e : Entry} {q : List Entry} {a : Active} (skip : Option SkipNote) (mode : RunState)
      (empty : (s.lane l).active = none) (head : (s.lane l).staging = e :: q)
      (plain : e.state = .failed ∨ e.state = .ready ∧ e.kind ≠ kindBurst)
      (done : a.done) (resumed : mode = (s.lane l).run ∨ (s.lane l).run = .tripped ∧ mode = .run) :
      Move G P s (s.setLane l { s.lane l with run := mode, staging := q, skip := skip, active := some a })
  | burstTaken {s : State} {l : LaneId} {e : Entry} {q : List Entry} (skip : Option SkipNote)
      (empty : (s.lane l).active = none) (head : (s.lane l).staging = e :: q) (ready : e.state = .ready)
      (burst : e.kind = kindBurst) :
      Move G P s (s.setLane l { s.lane l with
        staging := q, skip := skip
        active := some (Active.taken_ e.kind e.record e.blocks .claiming false s.timebase) })
  | markTaken {s : State} {l : LaneId} {e : Entry} {q : List Entry} (skip : Option SkipNote)
      (empty : (s.lane l).active = none) (head : (s.lane l).staging = e :: q) (ready : e.state = .ready)
      (mark : e.kind = kindMark) :
      Move G P s (s.setLane l { s.lane l with
        staging := q, skip := skip
        active := some (Active.taken_ e.kind e.record [] (.timeWait (markTime e.record) false) false s.timebase) })
  | skipTaken {s : State} {l : LaneId} {a : Active} (empty : (s.lane l).active = none) (done : a.done) :
      Move G P s (s.setActive l (some a))
  | retired {s : State} {l : LaneId} {a₀ : Active} (a : Active) (st : Status) (active : (s.lane l).active = some a₀)
      (blocks : a.blocks = a₀.blocks) (leaves : MayLeave G s l a₀) :
      Move G P s (freeBlocks a.blocks (s.setActive l (some (a.retire st s.timebase))))
  | startWaits {s : State} {l : LaneId} {a : Active} (active : (s.lane l).active = some a)
      (claiming : a.context = .claiming) :
      Move G P s (setContext l a (startWait (burstOf a.record) s.timebase) s)
  | boundary {s : State} {l : LaneId} {a₀ : Active} (a : Active) (e : Engine) (j : Nat) (v : Vec)
      (active : (s.lane l).active = some a₀)
      (same : a.kind = a₀.kind ∧ a.record = a₀.record ∧ a.blocks = a₀.blocks) (plays : PlaysOn a₀ e j)
      (leaves : MayLeave G s l a₀) :
      Move G P s (s.setActive l (some (a.atBoundary (s.lane l).shadow e j v s.timebase)))
  | engineMoved {s : State} {l : LaneId} {a : Active} {e : Engine} (e' : Engine) (stats : Stats)
      (active : (s.lane l).active = some a) (playing : a.context = .playing e) (fits : ∀ b, e.fit b → e'.fit b) :
      Move G P s (s.setActive l (some { a with context := .playing e', stats := stats }))
  | contextEmptied {s : State} {l : LaneId} {a : Active} {st : Status} {t : Tick} (skip : Option SkipNote)
      (active : (s.lane l).active = some a) (retiring : a.context = .retiring st t) :
      Move G P s (s.setLane l { s.lane l with active := none, skip := skip })
  | withdrawn {s : State} (w : Status) (after : LaneState → LaneState) (l : LaneId)
      (how : after = LaneState.skipToTail ∨ after = fun x => { x with run := .tripped }) :
      Move G P s { s with
        lanes := setTable s.lanes l (after ((s.lane l).withdrawnBy w l s.timebase))
        alloc := { free := s.alloc.free ++ (s.lane l).freedAtOnce, queue := s.alloc.queue.filter (·.lane != l) }
        claims := s.claims.filter (·.lane != l)
        groups := mapTable (fun _ g => g.leave l) s.groups
        pins := mapTable (fun _ p => if p.owner = some l then p.release else p) s.pins }
  -- retune outbox and Post Queue
  | shadowResolved {s : State} (l : LaneId) (st : Status) :
      Move G P s (mapLane l (LaneState.shadowResolved st l s.timebase) s)
  | outboxTaken {s : State} {l : LaneId} {c : Completion} {rest : List Completion}
      (outbox : (s.lane l).outbox = c :: rest) : Move G P s (s.setLane l { s.lane l with outbox := rest })
  | posted {s : State} (source : PostSource) (c : Completion) (room : P → s.post.hasRoom source) :
      Move G P s (postRecord source c s)
  | merged {s : State} (f : PostItem → PostItem) (same : ∀ x, (f x).source = x.source) :
      Move G P s { s with post := { s.post with items := s.post.items.map f } }
  -- the rings the part writes
  | completionIssued {s : State} (op : OpId) (ready : s.completionRing.ready s.on s.post.items.isEmpty = true) :
      Move G P s { s with completionRing := { s.completionRing with writing := some op } }
  | captureIssued {s : State} (op : OpId) (ready : s.captureRing.ready s.on s.capture.fifo.isEmpty = true) :
      Move G P s { s with captureRing := { s.captureRing with writing := some op } }
  | completionWritten {s : State} {i : PostItem} {rest : List PostItem} (items : s.post.items = i :: rest) :
      Move G P s { s with post := { s.post with items := rest }, completionRing := s.completionRing.advance }
  | captureWritten {s : State} :
      Move G P s { s with capture := { s.capture with fifo := s.capture.fifo.tail }
                          captureRing := s.captureRing.advance }
  | completionAcknowledged {s : State} {head : Nat} (accepts : s.completionRing.accepts head = true) :
      Move G P s { s with completionRing := { s.completionRing with head := head } }
  | captureAcknowledged {s : State} {head : Nat} (accepts : s.captureRing.accepts head = true) :
      Move G P s { s with captureRing := { s.captureRing with head := head } }
  -- the whole part
  | dropped {s : State} : Move G P s (dropWork s)
  | reset {s : State} : Move G P s (resetPart s)
  | entered {s : State} (d : Bytes 256) (entries : setupEntriesOk d = true) : Move G P s (enterOn d s)

/-- A chain of moves. -/
abbrev Moves (G P : Prop) : State → State → Prop := Relation.ReflTransGen (Move G P)

section
variable {G P : Prop} {s t u : State}

theorem Moves.of_same (same : SameParts s t) : Moves G P s t := .single (.aside same)

theorem Moves.single (h : Move G P s t) : Moves G P s t := Relation.ReflTransGen.single h

theorem Moves.trans (h : Moves G P s t) (k : Moves G P t u) : Moves G P s u := Relation.ReflTransGen.trans h k

theorem Moves.tail (h : Moves G P s t) (k : Move G P t u) : Moves G P s u := Relation.ReflTransGen.tail h k

/-- A predicate that every move keeps is kept by a chain of moves. -/
theorem Moves.keeps {I : State → Prop} (each : ∀ {s t}, Move G P s t → I s → I t) (h : Moves G P s t) (hs : I s) :
    I t := by
  induction h with
  | refl => exact hs
  | tail _ move ih => exact each move ih

/-! ### The Host Port's turns (R163) -/

theorem issueTurn_moves {r : Requester} (asks : presents s r = true) : Moves G P s (issueTurn r s) := by
  cases r with
  | fetch =>
    obtain ⟨l, chosen⟩ := chooseLane_of_presents asks
    have can : (s.lane l).eligible = true := (Bool.and_eq_true _ _ ▸ chooseLane_eligible chosen).2
    simp only [issueTurn, chosen, issueFetch]
    exact .tail (.single (.fetchIssued s.port.nextOp can)) (.aside (by constructor <;> rfl))
  | loader l =>
    simp only [issueTurn, issueLoad]
    split
    · exact .of_same (by constructor <;> rfl)
    · exact .tail (.single (.loadIssued l s.port.nextOp)) (.aside (by constructor <;> rfl))
  | completion =>
    simp only [issueTurn, issueCompletion]
    split
    · exact .of_same (by constructor <;> rfl)
    · exact .tail (.single (.completionIssued s.port.nextOp asks)) (.aside (by constructor <;> rfl))
  | capture =>
    simp only [issueTurn, issueCapture]
    split
    · exact .of_same (by constructor <;> rfl)
    · exact .tail (.single (.captureIssued s.port.nextOp asks)) (.aside (by constructor <;> rfl))

theorem turns_moves (n : Nat) (s : State) : Moves G P s (turns n s) := by
  induction n generalizing s with
  | zero => exact .refl
  | succ n ih =>
    simp only [turns]
    split
    · exact .refl
    · next r found => exact (issueTurn_moves (List.find?_some found)).trans (ih _)

theorem hostPort_moves (s : State) : Moves G P s (hostPort s) := turns_moves _ s

/-! ### The allocator (R29, R30) -/

theorem placeRequest_moves (l : LaneId) (s : State) : Moves G P s (placeRequest l s) := by
  rw [placeRequest_eq]
  exact .single (.requestPlaced l)

theorem allocRun_moves (n : Nat) (s : State) : Moves G P s (allocRun n s) := by
  induction n generalizing s with
  | zero => exact .refl
  | succ n ih =>
    simp only [allocRun]
    split
    · exact .refl
    · next r rest queue =>
      cases oldest : oldestWaiting (s.lane r.lane).staging with
      | none => simpa using Moves.trans (.single (.requestDropped queue)) (ih _)
      | some e =>
        simp only [Option.isNone_some, Bool.false_eq_true, if_false]
        split
        · next fits =>
          rw [grantHead_eq]
          exact ((Moves.single (.blocksGranted queue oldest fits)).trans (placeRequest_moves _ _)).trans (ih _)
        · exact .refl

/-! ### Retirement, claims and groups -/

theorem retire_moves {l : LaneId} {a a₀ : Active} (st : Status) (active : (s.lane l).active = some a₀)
    (blocks : a.blocks = a₀.blocks) (leaves : MayLeave G s l a₀) : Moves G P s (retire l a st s).1 := by
  have gone : Moves G P s (freeBlocks a.blocks (s.setActive l (some (a.retire st s.timebase)))) :=
    .single (.retired a st active blocks leaves)
  simp only [retire]
  split
  · split
    · exact gone.tail (.held l)
    · exact gone.tail (.released l)
  · exact gone

theorem mayLeave_of_ne {l : LaneId} {a₀ : Active} {c : Context} (context : a₀.context = c) (other : c ≠ .groupWait) :
    MayLeave G s l a₀ := .inl (context ▸ other)

theorem claimGranted_moves (l : LaneId) (s : State) : Moves G P s (claimGranted l s).1 := by
  simp only [claimGranted]
  split
  · exact .refl
  · next a active =>
    split
    · next claiming =>
      split
      · simp only [arriveAtGroup]
        split
        · next g joins => exact .single (.groupJoined active claiming joins)
        · exact retire_moves _ active rfl (mayLeave_of_ne claiming (by simp))
      · exact .single (.startWaits active claiming)
    · exact .refl

theorem presentClaim_moves {l : LaneId} {a : Active} (active : (s.lane l).active = some a)
    (claiming : a.context = .claiming) : Moves G P s (presentClaim l a s).1 := by
  simp only [presentClaim]
  split
  · exact .trans (.single (.claimGranted l _ _ (.inr ⟨a, active, claiming⟩))) (claimGranted_moves _ _)
  · split
    · exact .single (.claimWaits _ ⟨a, active, claiming⟩)
    · exact retire_moves _ active rfl (mayLeave_of_ne claiming (by simp))

/-- A pass over waiting claims leaves a list of some of them. -/
theorem examinePass_claims_subset (cs : List Claim) (s : State) : (examinePass cs s).1.claims ⊆ cs := by
  induction cs generalizing s with
  | nil => simp [examinePass]
  | cons c cs ih =>
    simp only [examinePass]
    split
    · exact List.Subset.trans (ih _) (List.subset_cons_self c cs)
    · exact List.cons_subset_cons c (ih s)

/-- Up to the claims that stay, a pass over claims of the list is a chain of grants. -/
theorem examinePass_moves (cs : List Claim) (s : State) (waiting : cs ⊆ s.claims) :
    ∃ u, Moves G P s u ∧ u.claims = s.claims ∧ (examinePass cs s).1 = { u with claims := (examinePass cs s).1.claims } := by
  induction cs generalizing s with
  | nil => exact ⟨s, .refl, rfl, rfl⟩
  | cons c cs ih =>
    have later : cs ⊆ s.claims := List.Subset.trans (List.subset_cons_self c cs) waiting
    simp only [examinePass]
    split
    · obtain ⟨u, moves, claims, same⟩ := ih (grantClaim c.lane c.drive c.sense s) later
      exact ⟨u, .trans (.single (.claimGranted _ _ _ (.inl ⟨c, waiting (List.mem_cons_self ..), rfl⟩))) moves,
        claims, same⟩
    · obtain ⟨u, moves, claims, same⟩ := ih s later
      exact ⟨u, moves, claims, by rw [same]⟩

theorem examinePasses_moves (n : Nat) (s : State) : Moves G P s (examinePasses n s).1 := by
  induction n generalizing s with
  | zero => exact .refl
  | succ n ih =>
    obtain ⟨u, moves, claims, same⟩ := examinePass_moves (G := G) (P := P) s.claims s (List.Subset.refl _)
    have pass : Moves G P s (examinePass s.claims s).1 := by
      rw [same]
      exact moves.tail (.claimsLeave _ fun c h => claims ▸ examinePass_claims_subset _ _ h)
    simp only [examinePasses]
    split
    · exact pass.trans (ih _)
    · exact pass

theorem arrange_moves {α : Type} (xs : List α) (s : State) : Moves G P s (arrange xs s).2 := by
  obtain ⟨n, eq⟩ := arrange_choices xs s
  rw [eq]
  exact .of_same (by constructor <;> rfl)

/-! ### The Post Queue (R155, R156) -/

theorem grantPort_moves (p : Port) (room : P → generalInUse s.post < 14) : Moves G P s (grantPort p s).1 := by
  cases p with
  | context l =>
    simp only [grantPort, grantContext]
    split
    · exact .refl
    · next a active =>
      split
      · next st t retiring =>
        exact .tail (.single (.contextEmptied _ active retiring)) (.posted .general _ room)
      · exact .refl
  | retune l =>
    simp only [grantPort, grantRetune]
    split
    · exact .refl
    · next c rest outbox => exact .tail (.single (.outboxTaken outbox)) (.posted .general _ room)

theorem askPort_moves (p : Port) (s : State) : Moves G P s (askPort p s).1 := by
  simp only [askPort]
  split
  · next free => exact grantPort_moves p fun _ => free.1
  · exact .of_same (by constructor <;> rfl)

/-! ### Taking the front item (R8 to R13) -/

theorem takeEntry_moves {l : LaneId} {e : Entry} {q : List Entry} (skip : Option SkipNote)
    (empty : (s.lane l).active = none) (head : (s.lane l).staging = e :: q)
    (takes : e.state = .ready ∨ e.state = .failed) :
    Moves G P s (takeEntry l e (s.setLane l { s.lane l with staging := q, skip := skip })).1 := by
  have done {kind : Byte} {record : Bytes 64} {st : Status} {late : Bool} {now : Tick} :
      (Active.taken_ kind record [] (.retiring st now) late now).done := ⟨⟨_, _, rfl⟩, rfl⟩
  have retires (plain : e.state = .failed ∨ e.state = .ready ∧ e.kind ≠ kindBurst) (st : Status) (late : Bool) :
      Moves G P s
        (takeRetiring l e.kind e.record st late (s.setLane l { s.lane l with staging := q, skip := skip })).1 := by
    simp only [takeRetiring, State.setActive_eq, State.lane_setLane, if_true, State.setLane_setLane]
    exact .single (.taken skip _ empty head plain done (.inl rfl))
  by_cases failed : e.state = .failed
  · simp only [takeEntry, failed, if_true]
    exact retires (.inl failed) _ _
  have ready := takes.resolve_right failed
  by_cases burst : e.kind = kindBurst
  · simp only [takeEntry, failed, burst, if_true, if_false, takeBurst]
    refine .trans (t := s.setLane l { s.lane l with
      staging := q, skip := skip
      active := some (Active.taken_ e.kind e.record e.blocks .claiming false s.timebase) })
      (.single (.burstTaken skip empty head ready burst)) ?_
    rw [State.setActive_eq, State.lane_setLane, if_pos rfl, State.setLane_setLane, burst]
    exact presentClaim_moves (by simp) rfl
  have plain : e.state = .failed ∨ e.state = .ready ∧ e.kind ≠ kindBurst := .inr ⟨ready, burst⟩
  simp only [takeEntry, failed, burst, if_false]
  split
  · next mark =>
    simp only [takeMark]
    split
    · exact retires plain _ _
    split
    · exact retires plain _ _
    · simp only [State.setActive_eq, State.lane_setLane, if_true, State.setLane_setLane]
      exact .single (.markTaken skip empty head ready mark)
  split
  · exact (retires plain .ok false).tail (.released l)
  · simp only [takeResume]
    split
    · next tripped =>
      have tripped : (s.lane l).run = .tripped := by simpa using tripped
      split
      · exact retires plain _ _
      · simp only [takeRetiring, State.setActive_eq, State.lane_setLane, if_true, State.setLane_setLane]
        exact .single (.taken skip _ empty head plain done (.inr ⟨tripped, rfl⟩))
    · exact retires plain _ _

theorem takeFront_moves (l : LaneId) (s : State) : Moves G P s (takeFront l s).1 := by
  by_cases waits : (s.lane l).active.isSome = true ∨ (s.lane l).run = .off
  · simp only [takeFront, waits, if_true]
    exact .refl
  have empty : (s.lane l).active = none := by
    simpa using (not_or.1 waits).1
  have headMoves : Moves G P s (takeHead l s).1 := by
    simp only [takeHead]
    split
    · exact .refl
    · next e q head =>
      split
      · next takes => exact takeEntry_moves _ empty head takes
      · exact .refl
  simp only [takeFront, waits, if_false]
  split
  · exact headMoves
  · split
    · exact .single (.skipTaken empty ⟨⟨_, _, rfl⟩, rfl⟩)
    · exact headMoves

/-! ### The work of an event -/

theorem runTask_moves (x : Task) (s : State) : Moves G P s (runTask x s).1 := by
  cases x with
  | look => exact allocRun_moves _ s
  | examine => exact (examinePasses_moves _ s).trans (arrange_moves _ _)
  | granted l => exact claimGranted_moves l s
  | ask p => exact askPort_moves p s
  | take l => exact takeFront_moves l s

theorem runTasks_moves (n : Nat) (ts : List Task) (s : State) : Moves G P s (runTasks n ts s) := by
  induction n generalizing ts s with
  | zero => exact .refl
  | succ n ih =>
    simp only [runTasks]
    split
    · exact .refl
    · exact (runTask_moves _ s).trans (ih _ _)

/-- An event is its own effect, then moves. -/
theorem Moves.finish {e : Effect} (h : Moves G P s e.1) (next : finish e = .next t) : Moves G P s t := by
  cases next
  exact (h.trans (runTasks_moves _ _ _)).trans (hostPort_moves _)

theorem Moves.finishState (h : Moves G P s u) (next : finishState u = .next t) : Moves G P s t := by
  cases next
  exact h.trans (hostPort_moves _)

end

end Sys2Proof.Machine
end

section
/-! Every command is a chain of moves, and so is every step: what the invariants are proved from. The groups' and the
Post Queue's own invariants are premised where a command's lanes, or the entry it frees, are known by them alone. -/

namespace Sys2Proof.Machine

section
variable {G P : Prop} {s t u : State}

/-! ### Withdrawals and firings (R131, R175) -/

/-- An operation that is a chain of moves on each lane is one on a list of lanes. -/
theorem eachLane_moves {f : LaneId → State → Effect} (each : ∀ l s, Moves G P s (f l s).1) (ls : List LaneId)
    (s : State) : Moves G P s (eachLane f ls s).1 := by
  induction ls generalizing s with
  | nil => exact .refl
  | cons l ls ih => exact (each l s).trans (ih _)

theorem afterWithdrawal_moves (before : State) (ls : List LaneId) {e : Effect} (h : Moves G P s e.1) :
    Moves G P s (afterWithdrawal before ls e).1 := h.trans (arrange_moves _ _)

theorem withdrawThen_moves (w : Status) {after : LaneState → LaneState} (l : LaneId) (s : State)
    (how : after = LaneState.skipToTail ∨ after = fun x => { x with run := .tripped }) :
    Moves G P s (withdrawThen w after l s).1 := by
  rw [withdrawThen_eq]
  exact .single (.withdrawn w after l how)

theorem abortWork_moves (m : LaneMask) (s : State) : Moves G P s (abortWork m s).1 :=
  afterWithdrawal_moves _ _ ((arrange_moves _ _).trans
    (eachLane_moves (fun l s => withdrawThen_moves .aborted l s (.inl rfl)) _ _))

theorem recordFiring_moves (i : SetId) (lanes : LaneMask) (s : State) : Moves G P s (recordFiring i lanes s) := by
  simp only [recordFiring]
  split
  · split
    · exact .of_same (by constructor <;> rfl)
    · refine .single (.merged _ fun x => ?_)
      split <;> rfl
  · next free => exact .single (.posted (.trip i) _ fun _ => by simpa [PostQueue.hasRoom] using free)

theorem fireSets_moves (is : List SetId) (s : State) : Moves G P s (fireSets is s).1 := by
  induction is generalizing s with
  | nil => exact .refl
  | cons i is ih =>
    have lanes : ∀ l s, Moves G P s (tripLane l s).1 := fun l s => withdrawThen_moves .tripped l s (.inr rfl)
    exact (((arrange_moves _ _).trans (eachLane_moves lanes _ _)).trans (recordFiring_moves _ _ _)).trans (ih _)

/-! ### The tick's look (R113 to R121) -/

theorem Capture.push_fifo (r : CaptureRecord) (c : Capture) :
    (c.fifo.length ≤ 32 → (c.push r).fifo.length ≤ 32) ∧ (c.fifo ≠ [] → (c.push r).fifo ≠ []) := by
  simp only [Capture.push]
  split
  · next room =>
    have : c.fifo.length < 32 := room
    exact ⟨fun _ => by simpa using this, fun _ => by simp⟩
  · exact ⟨id, id⟩

theorem Capture.change_fifo (n : PinId) (level : Bool) (now : Tick) (owner : Option LaneId) (c : Capture) :
    (c.fifo.length ≤ 32 → (c.change n level now owner).fifo.length ≤ 32)
      ∧ (c.fifo ≠ [] → (c.change n level now owner).fifo ≠ []) := by
  simp only [Capture.change]
  split
  · exact Capture.push_fifo _ c
  · exact ⟨id, id⟩

theorem captureChanges_fifo (changed levels : Pins) (now : Tick) (owner : Nat → Option LaneId) (ns : List PinId)
    (c : Capture) : (c.fifo.length ≤ 32 → (captureChanges changed levels now owner ns c).fifo.length ≤ 32)
      ∧ (c.fifo ≠ [] → (captureChanges changed levels now owner ns c).fifo ≠ []) := by
  induction ns generalizing c with
  | nil => exact ⟨id, id⟩
  | cons n ns ih =>
    simp only [captureChanges]
    split
    · obtain ⟨few, some⟩ := Capture.change_fifo n (pinBit levels n) now (owner n) c
      exact ⟨fun h => (ih _).1 (few h), fun h => (ih _).2 (some h)⟩
    · exact ih c

theorem SameParts.withChoices (same : SameParts s t) (n : Nat) : SameParts s { t with choices := n } :=
  { same with }

theorem SameParts.arrange {α : Type} (xs : List α) (same : SameParts s t) : SameParts s (arrange xs t).2 := by
  obtain ⟨n, eq⟩ := arrange_choices xs t
  exact eq ▸ same.withChoices n

theorem handOver_moves (changed : Pins) (s : State) : Moves G P s (handOver changed s).1 := by
  refine afterWithdrawal_moves _ _ (.tail (t := (fireSets _ _).1) ?_
    (.captured _ (captureChanges_fifo _ _ _ _ _ _).1 (captureChanges_fifo _ _ _ _ _ _).2))
  exact .trans (.of_same ((SameParts.arrange _ (by constructor <;> rfl)).withChoices _)) (fireSets_moves _ _)

theorem takeLook_moves (s : State) : Moves G P s (takeLook s).1 := by
  rcases takeLook_cases s with ⟨-, look⟩ | ⟨-, none⟩
  · rw [look]
    exact .trans (.tail (.single .look) (.notes _ fun _ p => ⟨none, rfl⟩)) (handOver_moves _ _)
  · rw [none]

/-! ### Returns of the link -/

theorem returnOp_moves (op : OpId) (s : State) : Moves G P s (returnOp op s) := .of_same (by constructor <;> rfl)

theorem stageRecord_moves {l : LaneId} {e : Entry} {x : LaneState}
    (staged : Moves G P s (s.setLane l { x with staging := x.staging ++ [e] })) :
    Moves G P s (stageRecord l e (s.setLane l x)).1 := by
  simp only [stageRecord, State.setStaging_eq, State.lane_setLane, if_true, State.setLane_setLane]
  split
  · exact staged.trans (placeRequest_moves l _)
  · exact staged

theorem recordArrives_moves {l : LaneId} {op : OpId} (r : Bytes 64) (live : (s.lane l).fetch = .live op) :
    Moves G P s (recordArrives l r s).1 := by
  simp only [recordArrives]
  split
  · next retune =>
    simp only [arriveRetune, depositShadow, pushOutbox, resolveShadow_eq, mapLane, LaneState.shadowResolved,
      State.lane_setLane, if_true, State.setLane_setLane]
    split
    · next running =>
      split
      · next valid =>
        rw [(recordValid_of_kind r).2.1 retune] at valid
        exact .single (.shadowDeposited r _ live running valid)
      · exact .single (.retuneRefused _ _ live)
    · exact .single (.retuneRefused _ _ live)
  · next other => exact stageRecord_moves (.single (.recordStaged r _ live other))

theorem fetchReturn_moves (l : LaneId) (reply : ReadReply 64) (s : State) : Moves G P s (fetchReturn l reply s).1 := by
  simp only [fetchReturn]
  split
  · exact .refl
  · next op discarded => exact .tail (.single (.fetchDropped discarded)) (.aside (by constructor <;> rfl))
  · next op live =>
    split
    · exact (returnOp_moves op s).trans (recordArrives_moves _ live)
    · exact (returnOp_moves op s).tail (.fetchFailed live)

theorem discardedReturn_moves (l : LaneId) (s : State) : Moves G P s (discardedReturn l s) := by
  simp only [discardedReturn]
  split
  · next op discarded => exact .tail (.single (.fetchDropped discarded)) (.aside (by constructor <;> rfl))
  · exact .refl

theorem failLoad_moves {l : LaneId} {k : Nat} {e : Entry} (st : Status) (op : OpId) (staged : entryAt l k s = some e)
    (loading : e.state = .loading) : Moves G P s (failLoad l k e st (returnOp op s)).1 :=
  (returnOp_moves op s).tail (.loadFailed st staged loading)

theorem loadReturn_moves (l : LaneId) (k : Nat) (reply : LoadReturn) (s : State) :
    Moves G P s (loadReturn l k reply s).1 := by
  simp only [loadReturn]
  split
  · exact .refl
  · next e staged =>
    split
    · next op loading reading =>
      split
      · exact failLoad_moves _ _ staged loading
      · next d unmarked =>
        simp only [acceptLoad]
        split
        · exact .tail (.tail (returnOp_moves op s) (.stored _ (storeLoad_wf e d)))
            (.loadAccepted staged loading unmarked)
        · exact failLoad_moves _ _ staged loading
      · exact failLoad_moves _ _ staged loading
    · exact .refl

theorem withdrawnReturn_moves (l : LaneId) (k : Nat) (s : State) : Moves G P s (withdrawnReturn l k s).1 := by
  simp only [withdrawnReturn]
  split
  · exact .refl
  · next e staged =>
    split
    · next loading _ _ => exact failLoad_moves _ _ staged loading
    · exact .refl

/-- A queue with at most 14 general records and one of each set has room for a record of the source of the one that
leaves it. -/
theorem hasRoom_of_popped {i : PostItem} {rest : List PostItem} {w : List Port} (bounded : PostBounded s)
    (items : s.post.items = i :: rest) : (⟨rest, w⟩ : PostQueue).hasRoom i.source := by
  obtain ⟨general, trips⟩ := bounded
  cases source : i.source with
  | general =>
    simp only [generalInUse, items, List.countP_cons, source] at general
    simp only [PostQueue.hasRoom, generalInUse]
    simpa using Nat.lt_of_succ_le general
  | trip k =>
    have one := trips k
    simp only [items, List.countP_cons, source, beq_self_eq_true, if_true] at one
    simpa [PostQueue.hasRoom, slotTaken] using List.countP_eq_zero.1 (Nat.le_zero.1 (Nat.le_of_succ_le_succ one))

theorem completionDone_moves (bounded : P → PostBounded s) : Moves G P s (completionDone s).1 := by
  simp only [completionDone]
  split
  · next op i rest writing items =>
    have popped : Moves G P s (completionWritten (returnOp op { s with post := { s.post with items := rest } })) :=
      .tail (.single (.completionWritten items)) (.aside (by constructor <;> rfl))
    have room (p : P) : (⟨rest, s.post.waiting⟩ : PostQueue).hasRoom i.source := hasRoom_of_popped (bounded p) items
    cases source : i.source with
    | general =>
      simp only [source] at room
      simp only [entryFreed, grantOldestPoster]
      split
      · exact popped
      · refine popped.trans (.trans (.of_same (by constructor <;> rfl)) (grantPort_moves _ fun p => room p))
    | trip k =>
      simp only [source] at room
      simp only [entryFreed, placeCarry]
      split
      · exact popped
      · exact popped.trans (.tail (.of_same (by constructor <;> rfl)) (.posted _ _ fun p => room p))
  · exact .refl

theorem captureDone_moves (s : State) : Moves G P s (captureDone s) := by
  simp only [captureDone]
  split
  · exact .refl
  · exact .tail (.single .captureWritten) (.aside (by constructor <;> rfl))

theorem setupReturn_moves (reply : ReadReply 256) (s : State) : Moves G P s (setupReturn reply s) := by
  have fails (code : Nat) (op : OpId) : Moves G P s (setupFails code (returnOp op s)) :=
    .of_same (by constructor <;> rfl)
  simp only [setupReturn]
  split
  · split
    · next d =>
      split
      · next passes =>
        have entries : setupEntriesOk d = true := by
          cases fit : setupEntriesOk d with
          | true => rfl
          | false => simp [setupCheck, fit] at passes
        exact (returnOp_moves _ s).tail (.entered d entries)
      · exact fails _ _
    · exact fails _ _
  · exact .refl

/-! ### Timed events -/

theorem gather_moves {e : Effect} (h : Moves G P s e.1) : Moves G P s (gather e).1 := h.trans (arrange_moves _ _)

theorem claimTimesOut_moves (l : LaneId) (s : State) : Moves G P s (claimTimesOut l s).1 := by
  have gone : Moves G P s (withdrawClaim l s) := .single (.claimsLeave _ fun c h => List.mem_of_mem_filter h)
  simp only [claimTimesOut]
  split
  · exact gone
  · next a active =>
    split
    · next claiming =>
      exact gone.trans (retire_moves .claimTimeout (l := l) (a₀ := a) active rfl (mayLeave_of_ne claiming (by simp)))
    · exact gone

theorem waitingMember_eq_some {l : LaneId} {a : Active} (h : waitingMember s l = some a) :
    (s.lane l).active = some a ∧ a.context = .groupWait := by
  simp only [waitingMember] at h
  split at h
  · cases h
  · next b active =>
    split at h
    · cases h
      exact ⟨active, by assumption⟩
    · cases h

/-- Once a group of a sound table is IDLE, the lanes that were ready in it are ready in none (R59). -/
theorem readyNowhere_of_groupEnds {g : GroupId} {l : LaneId} (sound : GroupsSound s)
    (ready : inMask (s.group g).ready l = true) : ReadyNowhere (s.setGroup g Group.idle) l := by
  intro k
  rw [State.group_setGroup]
  split
  · simp [Group.idle, inMask]
  · next other =>
    by_contra h
    obtain ⟨a, active, -, ga⟩ := (sound g).2.2 l ready
    obtain ⟨b, active', -, gb⟩ := (sound k).2.2 l (by simpa using h)
    rw [active] at active'
    cases active'
    exact other (ga.symm.trans gb)

/-- Operations on the lanes of a list that leave the groups and are moves while the lane may leave its group. -/
theorem eachLane_moves_of_leaving {f : LaneId → State → Effect} (groups : ∀ l s, (f l s).1.groups = s.groups)
    (each : ∀ l s, (G → ReadyNowhere s l) → Moves G P s (f l s).1) {ls : List LaneId} {s : State}
    (nowhere : ∀ l ∈ ls, G → ReadyNowhere s l) : Moves G P s (eachLane f ls s).1 := by
  induction ls generalizing s with
  | nil => exact .refl
  | cons l ls ih =>
    refine (each l s (nowhere l (List.mem_cons_self ..))).trans (ih fun k hk g => ?_)
    simpa only [ReadyNowhere, State.group, groups] using nowhere k (List.mem_cons_of_mem l hk) g

/-- A group's members, once it is IDLE, in a free order (R66, R67). -/
theorem groupMembers_moves {f : LaneId → State → Effect} (groups : ∀ l s, (f l s).1.groups = s.groups)
    (each : ∀ l s, (G → ReadyNowhere s l) → Moves G P s (f l s).1) (sound : G → GroupsSound s) (g : GroupId) :
    let o := arrange (lanesOf (s.group g).ready) (s.setGroup g Group.idle)
    Moves G P s (gather (eachLane f o.1 o.2)).1 := by
  refine gather_moves (.trans (.trans (.single (.groupEnds g)) (arrange_moves _ _))
    (eachLane_moves_of_leaving groups each fun l member premise => ?_))
  have ready : inMask (s.group g).ready l = true :=
    (List.mem_filter.1 ((arrange_perm _ _).mem_iff.1 member)).2
  obtain ⟨n, eq⟩ := arrange_choices (lanesOf (s.group g).ready) (s.setGroup g Group.idle)
  rw [eq]
  exact readyNowhere_of_groupEnds (sound premise) ready

theorem retire_groups (l : LaneId) (a : Active) (st : Status) (s : State) : (retire l a st s).1.groups = s.groups := by
  simp only [retire]
  split
  · split <;> rfl
  · rfl

theorem groupGivesUp_moves (sound : G → GroupsSound s) (g : GroupId) : Moves G P s (groupGivesUp g s).1 := by
  refine groupMembers_moves (fun l s => ?_) (fun l s nowhere => ?_) sound g
  · simp only [memberTimesOut]
    split
    · rfl
    · exact retire_groups _ _ _ _
  · simp only [memberTimesOut]
    split
    · exact .refl
    · next a waits => exact retire_moves _ (waitingMember_eq_some waits).1 rfl (.inr nowhere)

/-- A vector boundary drives the lane's pins, moves the active entry on and at a pass boundary resolves the shadow
(R82, R108). -/
theorem vectorBoundary_eq (l : LaneId) (a : Active) (e : Engine) (j : Nat) (v : Vec) (s : State) :
    (vectorBoundary l a e j v s).1 =
      let u := (driveUpdate l v.drive s).setActive l (some (a.atBoundary (s.lane l).shadow e j v s.timebase))
      if (burstOf a.record).passBoundary j then
        mapLane l (LaneState.shadowResolved (retuneStatus (burstOf a.record) (s.lane l).shadow) l s.timebase) u
      else u := by
  simp only [vectorBoundary, Active.atBoundary, boundaryEngine, resolveShadow_eq]
  split
  · simp only [mapLane, State.setActive_eq, State.setLane_setLane, State.lane_setLane, if_true]
    rfl
  · rfl

theorem vectorBoundary_moves {l : LaneId} {a a₀ : Active} {e : Engine} {j : Nat} (v : Vec)
    (active : (s.lane l).active = some a₀) (same : a.kind = a₀.kind ∧ a.record = a₀.record ∧ a.blocks = a₀.blocks)
    (plays : PlaysOn a₀ e j) (leaves : MayLeave G s l a₀) : Moves G P s (vectorBoundary l a e j v s).1 := by
  have moved : Moves G P s
      ((driveUpdate l v.drive s).setActive l (some (a.atBoundary (s.lane l).shadow e j v s.timebase))) :=
    .tail (.single (.driven l v.drive)) (.boundary a e j v active same plays leaves)
  rw [vectorBoundary_eq]
  dsimp only
  split
  · exact moved.tail (.shadowResolved l _)
  · exact moved

theorem vectorBoundary_groups (l : LaneId) (a : Active) (e : Engine) (j : Nat) (v : Vec) (s : State) :
    (vectorBoundary l a e j v s).1.groups = s.groups := by
  rw [vectorBoundary_eq]
  dsimp only
  split <;> rfl

theorem enterPlaying_moves {l : LaneId} {a : Active} (late grouped : Bool) (v : Vec)
    (active : (s.lane l).active = some a)
    (plays : a.context = .groupWait ∨ a.kind = kindBurst ∧ ∃ t late, a.context = .timeWait t late)
    (leaves : MayLeave G s l a) : Moves G P s (enterPlaying l a late grouped v s).1 := by
  have same : ((resolveShadow l .superseded s).1.lane l).active = some a
      ∧ (resolveShadow l .superseded s).1.groups = s.groups := by
    rw [resolveShadow_eq, mapLane_lane_self]
    exact ⟨active, rfl⟩
  refine .trans (t := (resolveShadow l .superseded s).1) ?_
    (vectorBoundary_moves (a₀ := a) v same.1 ⟨rfl, rfl, rfl⟩ (.inr ⟨plays, rfl, v, rfl⟩) ?_)
  · rw [resolveShadow_eq]
    exact .single (.shadowResolved l _)
  simpa only [MayLeave, ReadyNowhere, State.group, same.2] using leaves

theorem groupFires_moves (sound : G → GroupsSound s) (g : GroupId) : Moves G P s (groupFires g s).1 := by
  refine groupMembers_moves (fun l s => ?_) (fun l s nowhere => ?_) sound g
  · simp only [memberStarts]
    split
    · rfl
    · split
      · rfl
      · refine (vectorBoundary_groups ..).trans ?_
        rw [resolveShadow_eq]
        rfl
  · simp only [memberStarts]
    split
    · exact .refl
    · next a waits =>
      obtain ⟨active, context⟩ := waitingMember_eq_some waits
      split
      · exact .refl
      · exact enterPlaying_moves _ _ _ active (.inl context) (.inr nowhere)

theorem waitEnds_eq_some {kind : Byte} {l : LaneId} {r : Active × Bool} (h : waitEnds kind l s = some r) :
    (s.lane l).active = some r.1 ∧ r.1.kind = kind ∧ r.1.context = .timeWait s.timebase r.2 := by
  simp only [waitEnds] at h
  split at h
  · cases h
  · next a active =>
    split at h
    · next t late context =>
      split at h
      · next own =>
        cases h
        exact ⟨active, own.1, own.2 ▸ context⟩
      · cases h
    · cases h

theorem playingBurst_eq_some {l : LaneId} {r : Active × Engine} (h : playingBurst l s = some r) :
    (s.lane l).active = some r.1 ∧ r.1.context = .playing r.2 := by
  simp only [playingBurst] at h
  split at h
  · cases h
  · next a active =>
    split at h
    · next e context =>
      cases h
      exact ⟨active, context⟩
    · cases h

theorem paceStep_le {accumulator fraction : Nat} (ha : accumulator ≤ 31) (hf : fraction ≤ 31) :
    (paceStep accumulator fraction).1 ≤ 31 := by
  simp only [paceStep]
  split <;> dsimp only <;> omega

/-- A period begun at a fit pace leaves the engine fit (R81, R104). -/
theorem Engine.fit_startPeriod {b : Burst} {e : Engine} (now : Tick) (play : 1 ≤ e.play ∧ e.play ≤ b.sequenceLength)
    (period : 1 ≤ e.period) (accumulator : e.accumulator ≤ 31) (strobe : b.strobeOffset.toNat < e.paceInteger.toNat)
    (fraction : e.paceFraction.toNat ≤ 31) : (e.startPeriod now).fit b := by
  refine ⟨play.1, play.2, period, paceStep_le accumulator fraction, strobe, fraction, ?_⟩
  simp only [Engine.startPeriod]
  split
  · exact .inr rfl
  · exact .inl (BitVec.add_zero _)

theorem Engine.fit_nextPeriod {b : Burst} {e : Engine} (now : Tick) (fit : e.fit b) :
    ({ e with period := e.period + 1 }.startPeriod now).fit b := by
  obtain ⟨first, last, period, accumulator, strobe, fraction, -⟩ := fit
  exact Engine.fit_startPeriod now ⟨first, last⟩ (Nat.le_succ_of_le period) accumulator strobe fraction

theorem Engine.fit_strobeOutcome {b b' : Burst} {e : Engine} (observed : Pins) (x : Stats) (fit : e.fit b) :
    (strobeOutcome b' observed e x).1.fit b := by
  simp only [strobeOutcome]
  split
  · split <;> exact fit
  · split
    · split
      · exact fit
      · split <;> exact fit
    · exact fit

theorem periodFollow_eq_nextPlay {b : Burst} {e : Engine} {x : Stats} (h : periodFollow b e x = .nextPlay) :
    e.play < b.sequenceLength := by
  simp only [periodFollow] at h
  split at h
  · cases h
  · split at h
    · cases h
    · split at h
      · cases h
      · split at h
        · assumption
        · cases h

theorem runTimed_moves {e : TimedEvent} (sound : G → GroupsSound s) (h : runTimed e s = .next t) : Moves G P s t := by
  cases e with
  | claimTimeout l =>
    simp only [runTimed, execClaimTimeout] at h
    split at h
    · exact (claimTimesOut_moves l s).finish h
    · exact .finishState .refl h
  | groupDeadline g =>
    simp only [runTimed, execGroupDeadline] at h
    split at h
    · exact (groupGivesUp_moves sound g).finish h
    · exact .finishState .refl h
  | groupStartTick g =>
    simp only [runTimed, execGroupStartTick] at h
    split at h
    · split at h
      · exact (groupFires_moves sound g).finish h
      · cases h
    · exact .finishState .refl h
  | markDue l =>
    simp only [runTimed, execMarkDue] at h
    split at h
    · exact .finishState .refl h
    · next r ends =>
      obtain ⟨active, -, context⟩ := waitEnds_eq_some ends
      exact (retire_moves _ active rfl (mayLeave_of_ne context (by simp))).finish h
  | burstStart l =>
    simp only [runTimed, execBurstStart] at h
    split at h
    · exact .finishState .refl h
    · next r ends =>
      obtain ⟨active, burst, context⟩ := waitEnds_eq_some ends
      split at h
      · cases h
      · exact (enterPlaying_moves _ _ _ active (.inr ⟨burst, _, _, context⟩)
          (mayLeave_of_ne context (by simp))).finish h
  | strobe l =>
    simp only [runTimed, execStrobe] at h
    split at h
    · exact .finishState .refl h
    · next r plays =>
      obtain ⟨active, context⟩ := playingBurst_eq_some plays
      split at h
      · exact .finishState (.single (.engineMoved _ _ active context fun b fit => Engine.fit_strobeOutcome _ _ fit)) h
      · exact .finishState .refl h
  | periodEnd l =>
    simp only [runTimed, execPeriodEnd] at h
    split at h
    · exact .finishState .refl h
    · next r plays =>
      obtain ⟨active, context⟩ := playingBurst_eq_some plays
      split at h
      · split at h
        · exact (retire_moves _ active rfl (mayLeave_of_ne context (by simp))).finish h
        · exact .finishState (.single (.engineMoved _ _ active context fun b fit => Engine.fit_nextPeriod _ fit)) h
        · next follows =>
          split at h
          · cases h
          · exact (vectorBoundary_moves _ active ⟨rfl, rfl, rfl⟩
              (.inl ⟨context, periodFollow_eq_nextPlay follows, rfl⟩) (mayLeave_of_ne context (by simp))).finish h
      · exact .finishState .refl h
  | holdoffExpiry r =>
    simp only [runTimed, execHoldoffExpiry] at h
    split at h
    · cases r <;> exact .finishState (.of_same (by constructor <;> rfl)) h
    · exact .finishState .refl h

/-! ### Every command -/

theorem refuseCommand_moves (h : refuseCommand s = .next t) : Moves G P s t :=
  .finishState (.of_same (by constructor <;> rfl)) h

theorem acceptCommand_moves (code : Byte) (mask : LaneMask) (s : State) : Moves G P s (acceptCommand code mask s) :=
  .of_same (by constructor <;> rfl)

theorem exec_moves {c : Instr} (groups : G → GroupsSound s) (post : P → PostBounded s) (h : exec c s = .next t) :
    Moves G P s t := by
  cases c with
  | enable =>
    simp only [exec, execEnable] at h
    split at h
    · exact .finishState (.of_same (by constructor <;> rfl)) h
    · exact refuseCommand_moves h
  | disable =>
    simp only [exec, execDisable] at h
    split at h
    · exact .finishState (acceptCommand_moves ..) h
    · exact .finishState (.tail (.tail (acceptCommand_moves ..) .dropped) (.aside (by constructor <;> rfl))) h
  | reset | powerOn | resetPin =>
    cases h
    exact .single .reset
  | abort mask =>
    simp only [exec, execAbort] at h
    split at h
    · exact ((acceptCommand_moves ..).trans (abortWork_moves _ _)).finish h
    · exact refuseCommand_moves h
  | start mask =>
    simp only [exec, execStart] at h
    split at h
    · exact .finishState (.tail (acceptCommand_moves ..) (.restarted mask)) h
    · exact refuseCommand_moves h
  | unknownCommand code =>
    simp only [exec, execUnknownCommand] at h
    split at h
    · exact refuseCommand_moves h
    · cases h
  | submit l tail =>
    simp only [exec, execSubmit] at h
    split at h
    · split at h
      · exact .finishState (.single (.ringMoved l _ _)) h
      · exact .finishState (.of_same (by constructor <;> rfl)) h
    · exact .finishState (.of_same (by constructor <;> rfl)) h
  | acknowledgeCompletion head =>
    simp only [exec, execAcknowledgeCompletion] at h
    split at h
    · split at h
      · next accepts =>
        simp only [moveCompletionHead] at h
        split at h
        · exact .finishState .refl h
        · exact .finishState (.tail (.single (.completionAcknowledged accepts)) (.aside (by constructor <;> rfl))) h
      · exact .finishState (.of_same (by constructor <;> rfl)) h
    · exact .finishState (.of_same (by constructor <;> rfl)) h
  | acknowledgeCapture head =>
    simp only [exec, execAcknowledgeCapture] at h
    split at h
    · split at h
      · next accepts =>
        simp only [moveCaptureHead] at h
        split at h
        · exact .finishState .refl h
        · exact .finishState (.tail (.single (.captureAcknowledged accepts)) (.aside (by constructor <;> rfl))) h
      · exact .finishState (.of_same (by constructor <;> rfl)) h
    · exact .finishState (.of_same (by constructor <;> rfl)) h
  | statusWrite | setupLoWrite | setupHiWrite => exact .finishState (.of_same (by constructor <;> rfl)) h
  | registerWrite reg byteEnables value =>
    simp only [exec, execRegisterWrite] at h
    split at h
    · exact .finishState .refl h
    · cases h
  | rawLevelChange level hold =>
    have outside : Moves G P s (setOutside level hold s) := .of_same (by constructor <;> rfl)
    simp only [exec, execRawLevelChange] at h
    split at h
    · exact (outside.trans (takeLook_moves _)).finish h
    · exact outside.finishState h
  | qualifierSample =>
    simp only [exec, execQualifierSample] at h
    split at h
    · exact (takeLook_moves s).finish h
    · exact .finishState .refl h
  | setupReadReturn reply => exact (setupReturn_moves reply s).finishState h
  | hostPortTurn => exact .finishState .refl h
  | recordArrival l r => exact (fetchReturn_moves l (.data r) s).finish h
  | fetchBusError l => exact (fetchReturn_moves l .busError s).finish h
  | discardedFetchReturn l => exact (discardedReturn_moves l s).finishState h
  | loadReadReturn l k d => exact (loadReturn_moves l _ (.data d) s).finish h
  | loadFault l k => exact (loadReturn_moves l _ .busError s).finish h
  | withdrawnLoadReturn l k => exact (withdrawnReturn_moves l _ s).finish h
  | staleReturn op =>
    simp only [exec, execStaleReturn] at h
    split at h
    · exact .finishState .refl h
    · exact (returnOp_moves op s).finishState h
  | completionWriteDone => exact (completionDone_moves post).finish h
  | completionWriteError =>
    simp only [exec, execCompletionWriteError] at h
    split at h
    · exact .finishState .refl h
    · exact .finishState (.tail (.tail (returnOp_moves _ s) .dropped) (.aside (by constructor <;> rfl))) h
  | captureWriteDone => exact (captureDone_moves s).finishState h
  | captureWriteError =>
    simp only [exec, execCaptureWriteError] at h
    split at h
    · exact .finishState .refl h
    · exact .finishState (.tail (.tail (returnOp_moves _ s) .dropped) (.aside (by constructor <;> rfl))) h
  | claimTimeout l => exact runTimed_moves (e := .claimTimeout l) groups h
  | groupDeadline g => exact runTimed_moves (e := .groupDeadline g) groups h
  | groupStartTick g => exact runTimed_moves (e := .groupStartTick g) groups h
  | markDue l => exact runTimed_moves (e := .markDue l) groups h
  | burstStart l => exact runTimed_moves (e := .burstStart l) groups h
  | strobe l => exact runTimed_moves (e := .strobe l) groups h
  | periodEnd l => exact runTimed_moves (e := .periodEnd l) groups h
  | holdoffExpiry r => exact runTimed_moves (e := .holdoffExpiry r) groups h

theorem tick_moves (s : State) : Moves G P s (tick s) := by
  refine .tail (t := { s with pins := mapTable _ s.pins }) (.single (.notes _ fun n p => ?_))
    (.aside (by constructor <;> rfl))
  exact ⟨if ownChange s n then p.earlier else none, rfl⟩

/-- Every step is a chain of moves. -/
theorem step_moves (groups : G → GroupsSound s) (post : P → PostBounded s) (h : step s = .next t) : Moves G P s t := by
  simp only [step] at h
  split at h
  · simp only [idle, ownEvent] at h
    obtain ⟨n, counted⟩ := chooseEvent_cases tickEvents s
    split at h
    · rw [counted.1] at h
      exact .trans (.of_same (by constructor <;> rfl)) (exec_moves (s := { s with choices := n }) groups post h)
    · cases h
      exact tick_moves s
  · next c rest _ =>
    exact .trans (.of_same (by constructor <;> rfl)) (exec_moves (s := { s with pending := rest }) groups post h)

/-- An invariant that every move keeps is kept by every step. -/
theorem step_keeps {I : State → Prop} (each : ∀ {s t : State}, Move False False s t → I s → I t) (hs : I s)
    (h : step s = .next t) : I t :=
  (step_moves False.elim False.elim h).keeps each hs

end

end Sys2Proof.Machine
end

section
/-! The invariants of the pins, the buffers, the groups, the queues and the lanes (R4, R22, R40 to R42, R58, R59,
R113 to R125, R154 to R158): each is kept by every move, the moves that touch none of its parts leaving it as it was. -/

namespace Sys2Proof.Machine

section
variable {G P : Prop} {s t : State}

/-! ### Pins (R40 to R42) -/

theorem forall_mem_toList_iff {α : Type} {n : Nat} {v : Vector α n} {Q : α → Prop} :
    (∀ x ∈ v.toList, Q x) ↔ ∀ i : Fin n, Q (v.get i) := by
  simp only [List.mem_iff_getElem, Vector.length_toList, Vector.getElem_toList, Vector.get_eq_getElem, Fin.forall_iff]
  exact ⟨fun h i hi => h _ ⟨i, hi, rfl⟩, fun h x ⟨i, hi, eq⟩ => eq ▸ h i hi⟩

/-- A table changed entry by entry, each change keeping `Q`. -/
theorem forall_mem_mapTable {α : Type} {n : Nat} {v : Vector α n} {Q : α → Prop} {f : Nat → α → α}
    (keeps : ∀ i x, Q x → Q (f i x)) (h : ∀ x ∈ v.toList, Q x) : ∀ x ∈ (mapTable f v).toList, Q x :=
  forall_mem_toList_iff.2 fun i => by
    rw [mapTable_get]
    exact keeps _ _ (forall_mem_toList_iff.1 h i)

namespace PinEntry
variable {p : PinEntry}

theorem sound_release (p : PinEntry) : p.release.sound := by
  rw [release_eq]
  exact ⟨by simp, rfl, fun _ => rfl, by simp⟩

theorem sound_hold {l : LaneId} (h : p.sound) : (if p.owner = some l then { p with held := true } else p).sound := by
  split
  · next own => exact ⟨fun _ => by simp [own], h.2⟩
  · exact h

theorem sound_claim {l : LaneId} (role : Role) : (p.claim l role).sound := by
  refine ⟨fun _ => rfl, rfl, nofun, fun sense => ?_⟩
  cases sense
  rfl

theorem sound_drive {l : LaneId} {level : Level} (h : p.sound) :
    (if p.owner = some l ∧ (p.role = some .drive ∨ p.role = some .both) then { p with output := level } else p).sound := by
  split
  · next drives =>
    obtain ⟨own, role⟩ := drives
    refine ⟨h.1, h.2.1, fun free => by simp [own] at free, fun sense => ?_⟩
    rw [show p.role = some .sense from sense] at role
    simp at role
  · exact h

theorem sound_pinEntryOn (d : Bytes 256) (n : Nat) : (pinEntryOn d n).sound :=
  ⟨nofun, rfl, fun _ => rfl, nofun⟩

end PinEntry

theorem Move.keeps_pinsSound (move : Move G P s t) (h : PinsSound s) : PinsSound t := by
  have released (l : LaneId) : PinsSound (releaseLane l s) := forall_mem_mapTable (fun _ p hp => by
    split
    · exact p.sound_release
    · exact hp) h
  cases move with
  | aside same => exact fun p hp => h p (same.pins ▸ hp)
  | notes f noted =>
    refine forall_mem_mapTable (fun n p hp => ?_) h
    obtain ⟨x, eq⟩ := noted n p
    rw [eq]
    exact hp
  | released l => exact released l
  | held l => exact forall_mem_mapTable (fun _ _ => PinEntry.sound_hold) h
  | driven l v => exact forall_mem_mapTable (fun _ _ => PinEntry.sound_drive) h
  | claimGranted l d e claims =>
    refine forall_mem_mapTable (fun n p hp => ?_) h
    split
    · exact PinEntry.sound_claim _
    · split
      · exact p.sound_release
      · exact hp
  | withdrawn w after l how => exact released l
  | dropped => exact forall_mem_mapTable (fun _ p _ => p.sound_release) h
  | reset =>
    refine forall_mem_toList_iff.2 fun n => ?_
    rw [resetPart, State.reset, replicate_get]
    exact ⟨by simp [PinEntry.reset], rfl, fun _ => rfl, by simp [PinEntry.reset]⟩
  | entered d entries => exact forall_mem_mapTable (fun n _ _ => PinEntry.sound_pinEntryOn d n) h
  | _ => exact h

/-- Settles O51. -/
theorem stepKeepsPinsSound : Obligations.StepKeepsPinsSound :=
  fun _ _ => step_keeps Move.keeps_pinsSound

/-! ### The store, the capture FIFO and the stability counts (R24, R113 to R115, R121) -/

theorem stabilityBounded_iff : StabilityBounded s ↔
    ∀ n : PinId, (s.qualifier.pins.get n).stability ≤ (s.pins.get n).qualifierCount := by
  simp only [StabilityBounded, ← Qualifier.pin_eq, ← State.pin_eq, Fin.forall_iff]

/-- A look keeps a stability count within the pin's qualifier count (R114, R115). -/
theorem QualifiedPin.stability_look {p : QualifiedPin} {c : Nat} (sampling raw : Bool) (h : p.stability ≤ c) :
    (p.look c sampling raw).stability ≤ c := by
  simp only [QualifiedPin.look]
  split
  · exact Nat.zero_le _
  · split
    · simp only [QualifiedPin.sample]
      split
      · exact Nat.zero_le _
      · split
        · next below => exact below
        · exact Nat.zero_le _
    · exact h

/-- What the moves of pins leave of the qualifier counts. -/
theorem StabilityBounded.of_pins (h : StabilityBounded s) (levels : t.qualifier.pins = s.qualifier.pins)
    (counts : ∀ n : PinId, (t.pins.get n).qualifierCount = (s.pins.get n).qualifierCount) : StabilityBounded t :=
  stabilityBounded_iff.2 fun n => by
    rw [levels, counts]
    exact stabilityBounded_iff.1 h n

theorem Move.keeps_stabilityBounded (move : Move G P s t) (h : StabilityBounded s) : StabilityBounded t := by
  have released (l : LaneId) : StabilityBounded (releaseLane l s) := h.of_pins rfl fun n => by
    rw [releaseLane, mapTable_get]
    split <;> rfl
  cases move with
  | aside same => exact h.of_pins same.levels fun n => by rw [same.pins]
  | notes f noted =>
    refine h.of_pins rfl fun n => ?_
    rw [mapTable_get]
    obtain ⟨x, eq⟩ := noted n.val (s.pins.get n)
    rw [eq]
  | look =>
    refine stabilityBounded_iff.2 fun n => ?_
    have bound := stabilityBounded_iff.1 h n
    rw [lookQualifier_pins, lookPins_get, State.pin_eq]
    split <;> exact QualifiedPin.stability_look _ _ bound
  | released l => exact released l
  | held l =>
    refine h.of_pins rfl fun n => ?_
    rw [holdLane, mapTable_get]
    split <;> rfl
  | driven l v =>
    refine h.of_pins rfl fun n => ?_
    rw [driveUpdate, mapTable_get]
    split <;> rfl
  | claimGranted l d e claims =>
    refine h.of_pins rfl fun n => ?_
    rw [grantClaim, mapTable_get]
    split
    · rfl
    · split <;> rfl
  | withdrawn w after l how => exact released l
  | dropped =>
    refine stabilityBounded_iff.2 fun n => ?_
    rw [dropWork, mapTable_get]
    exact Nat.zero_le _
  | reset =>
    refine stabilityBounded_iff.2 fun n => ?_
    rw [resetPart, State.reset, replicate_get]
    exact Nat.zero_le _
  | entered d entries =>
    refine stabilityBounded_iff.2 fun n => ?_
    rw [enterOn, enterTrips, enterQualifier, firstSample, mapTable_get]
    exact Nat.zero_le _
  | _ => exact h

theorem Move.keeps_storeCanonical (move : Move G P s t) (h : StoreCanonical s) : StoreCanonical t := by
  cases move with
  | aside same => exact (congrArg (storeWf · = true) same.store).mpr h
  | stored m canonical => exact canonical h
  | _ => exact h

theorem Move.keeps_fifoBounded (move : Move G P s t) (h : FifoBounded s) : FifoBounded t := by
  cases move with
  | aside same => exact (congrArg (List.length · ≤ 32) same.fifo).mpr h
  | captured c fits grows => exact fits h
  | captureWritten => exact (List.length_tail.trans_le (Nat.sub_le _ _)).trans h
  | dropped | reset | entered => exact Nat.zero_le 32
  | _ => exact h

/-- Settles O58. -/
theorem stepKeepsBuffersSound : Obligations.StepKeepsBuffersSound := by
  intro s t
  exact step_keeps (I := fun s => StoreCanonical s ∧ FifoBounded s ∧ StabilityBounded s) fun move ⟨store, fifo, stable⟩ =>
    ⟨move.keeps_storeCanonical store, move.keeps_fifoBounded fifo, move.keeps_stabilityBounded stable⟩

/-! ### The Post Queue (R154) -/

theorem Move.keeps_postBounded (premise : P) (move : Move G P s t) (h : PostBounded s) : PostBounded t := by
  cases move with
  | aside same => simpa only [PostBounded, generalInUse, same.items] using h
  | posted source c room =>
    obtain ⟨general, trips⟩ := h
    cases source with
    | general =>
      have room : generalInUse s.post < 14 := room premise
      exact ⟨by simpa [generalInUse, postRecord] using room, fun i => by simpa [postRecord] using trips i⟩
    | trip k =>
      have room : slotTaken k s.post = false := room premise
      refine ⟨by simpa [generalInUse, postRecord] using general, fun i => ?_⟩
      by_cases own : k = i
      · subst own
        have none : (s.post.items.countP fun x => x.source == .trip k) = 0 :=
          List.countP_eq_zero.2 (by simpa [slotTaken] using room)
        simp [postRecord, none]
      · simpa [postRecord, own] using trips i
  | merged f same => simpa only [PostBounded, generalInUse, List.countP_map, Function.comp_def, same] using h
  | completionWritten items =>
    obtain ⟨general, trips⟩ := h
    simp only [generalInUse, items, List.countP_cons] at general trips
    exact ⟨(Nat.le_add_right _ _).trans general, fun i => (Nat.le_add_right _ _).trans (trips i)⟩
  | dropped | reset | entered => exact ⟨Nat.zero_le 14, fun _ => Nat.zero_le 1⟩
  | _ => exact h

/-! ### The rings the part writes (R123, R157, R158) -/

namespace RingWriter
variable {r : RingWriter}

theorem sound_issued {on empty : Bool} {op : OpId} (sound : r.sound) (ready : r.ready on empty = true) :
    ({ r with writing := some op } : RingWriter).sound := by
  obtain ⟨two, producer, head, -⟩ := sound
  simp only [RingWriter.ready, Bool.and_eq_true, Bool.not_eq_true'] at ready
  exact ⟨two, producer, head, fun _ => ready.1.2⟩

theorem nonempty_of_ready {on empty : Bool} (ready : r.ready on empty = true) : empty = false := by
  simp only [RingWriter.ready, Bool.and_eq_true, Bool.not_eq_true'] at ready
  exact ready.1.1.2

theorem sound_idle {r' : RingWriter} (sound : r.sound) (entries : r'.entries = r.entries)
    (producer : r'.producer < r.entries) (head : r'.head = r.head) (idle : r'.writing = none) : r'.sound := by
  obtain ⟨two, -, headBelow, -⟩ := sound
  exact ⟨entries ▸ two, entries ▸ producer, entries ▸ head ▸ headBelow, fun h => by simp [idle] at h⟩

theorem sound_advance (sound : r.sound) : r.advance.sound :=
  sound_idle sound rfl (Nat.mod_lt _ (Nat.zero_lt_of_lt sound.1)) rfl rfl

/-- A ring that is not full is not filled by an accepted head: the head stays behind the next producer index (R160). -/
theorem sound_acknowledged {head : Nat} (sound : r.sound) (accepts : r.accepts head = true) :
    ({ r with head := head } : RingWriter).sound := by
  obtain ⟨two, producer, old, full⟩ := sound
  obtain ⟨below, inRange⟩ : head < r.entries ∧ (head + r.entries - r.head) % r.entries ≤ r.fill := by
    simpa [RingWriter.accepts] using accepts
  rw [RingWriter.fill] at inRange
  refine ⟨two, producer, below, fun writing => ?_⟩
  have notFull := full writing
  simp only [RingWriter.full, beq_eq_false_iff_ne] at notFull ⊢
  have wrap (a : Nat) (ha : a < r.entries) (b : Nat) (hb : b < r.entries) :
      (a + r.entries - b) % r.entries = if b ≤ a then a - b else a + r.entries - b := by
    split
    · rw [show a + r.entries - b = a - b + r.entries by omega, Nat.add_mod_right, Nat.mod_eq_of_lt (by omega)]
    · exact Nat.mod_eq_of_lt (by omega)
  have next : (r.producer + 1) % r.entries = if r.producer + 1 = r.entries then 0 else r.producer + 1 := by
    split
    · next last => rw [last, Nat.mod_self]
    · exact Nat.mod_eq_of_lt (by omega)
  rw [wrap _ below _ old, wrap _ producer _ old] at inRange
  rw [next] at notFull ⊢
  split at inRange <;> split at inRange <;> split at notFull <;> simp_all <;> omega

theorem sound_ringEntry {d : Bytes 256} (entries : setupEntriesOk d = true) {k : Nat} (ring : k = 4 ∨ k = 5) :
    (ringEntry d k).sound := by
  have fits : ringEntriesOk (setupEntries k d) = true := by
    rcases ring with rfl | rfl <;> exact List.all_eq_true.1 entries _ (by simp)
  obtain ⟨j, low, -, eq⟩ := (ringEntriesOk_iff _).1 fits
  have two : 1 < setupEntries k d := eq ▸ Nat.one_lt_two_pow (by omega)
  exact ⟨two, Nat.zero_lt_of_lt two, Nat.zero_lt_of_lt two, nofun⟩

theorem sound_reset : RingWriter.reset.sound := ⟨by decide, by decide, by decide, by decide⟩

end RingWriter

theorem Move.keeps_ringsSound (move : Move G P s t) (h : RingsSound s) : RingsSound t := by
  have ⟨completion, capture, head, first⟩ := h
  have idle (items : List PostItem) (fifo : List CaptureRecord) {a b : RingWriter} (ha : a.sound) (hb : b.sound)
      (na : a.writing = none) (nb : b.writing = none) : a.sound ∧ b.sound
        ∧ (a.writing.isSome = true → items ≠ []) ∧ (b.writing.isSome = true → fifo ≠ []) :=
    ⟨ha, hb, fun h => by simp [na] at h, fun h => by simp [nb] at h⟩
  cases move with
  | aside same => simpa only [RingsSound, same.completionRing, same.captureRing, same.items, same.fifo] using h
  | captured c fits grows => exact ⟨completion, capture, head, fun writing => grows (first writing)⟩
  | posted source c room => exact ⟨completion, capture, fun _ => by simp [postRecord], first⟩
  | merged f same =>
    exact ⟨completion, capture, fun writing => by simpa using head writing, first⟩
  | completionIssued op ready =>
    exact ⟨RingWriter.sound_issued completion ready, capture,
      fun _ => by simpa using RingWriter.nonempty_of_ready ready, first⟩
  | captureIssued op ready =>
    exact ⟨completion, RingWriter.sound_issued capture ready, head, fun _ => by simpa using RingWriter.nonempty_of_ready ready⟩
  | completionWritten items => exact ⟨RingWriter.sound_advance completion, capture, nofun, first⟩
  | captureWritten => exact ⟨completion, RingWriter.sound_advance capture, head, nofun⟩
  | completionAcknowledged accepts => exact ⟨RingWriter.sound_acknowledged completion accepts, capture, head, first⟩
  | captureAcknowledged accepts => exact ⟨completion, RingWriter.sound_acknowledged capture accepts, head, first⟩
  | dropped =>
    exact idle _ _ (RingWriter.sound_idle completion rfl completion.2.1 rfl rfl) (RingWriter.sound_idle capture rfl capture.2.1 rfl rfl) rfl rfl
  | reset => exact idle _ _ RingWriter.sound_reset RingWriter.sound_reset rfl rfl
  | entered d entries =>
    exact idle _ _ (RingWriter.sound_ringEntry entries (.inl rfl)) (RingWriter.sound_ringEntry entries (.inr rfl)) rfl rfl
  | _ => exact h

/-- Settles O53. -/
theorem stepKeepsQueuesAndRingsBounded : Obligations.StepKeepsQueuesAndRingsBounded :=
  fun s _ ⟨post, rings⟩ h =>
    (step_moves (G := False) (P := PostBounded s) False.elim id h).keeps (I := fun s => PostBounded s ∧ RingsSound s)
      (fun move ⟨post', rings'⟩ => ⟨move.keeps_postBounded post post', move.keeps_ringsSound rings'⟩) ⟨post, rings⟩

/-! ### Lanes (R4, R22, R146) -/

namespace LaneState
variable {x : LaneState}

theorem reserved_of_live {op : OpId} (h : x.bounded) (live : x.fetch = .live op) : x.reserved = true :=
  h.1.2 ⟨op, live⟩

theorem not_reserved_of_discarded {op : OpId} (h : x.bounded) (discarded : x.fetch = .discarded op) :
    x.reserved = false := by
  by_contra set
  obtain ⟨op', live⟩ := h.1.1 (by simpa using set)
  rw [discarded] at live
  cases live

theorem length_shadowCompletion (l : LaneId) (w : Status) (now : Tick) (x : LaneState) :
    (x.shadowCompletion l w now).length = if x.shadow.isSome then 1 else 0 := by
  simp only [shadowCompletion]
  cases x.shadow <;> rfl

theorem bounded_of_empty {base : Addr} {entries consumer tail : Nat} (mode : RunState) :
    ({ LaneState.reset with
      run := mode, base := base, entries := entries, consumer := consumer, tail := tail } : LaneState).bounded :=
  ⟨⟨nofun, nofun⟩, nofun, Nat.zero_le 4, Nat.zero_le 2⟩

/-- A lane with no reserved place and no live read, within the bounds of its queues. -/
theorem bounded_of_not_reserved (free : x.reserved = false) (idle : ∀ op, x.fetch ≠ .live op)
    (staging : x.staging.length ≤ 4) (outbox : x.outbox.length + (if x.shadow.isSome then 1 else 0) ≤ 2) : x.bounded := by
  refine ⟨⟨fun h => by simp [free] at h, fun ⟨op, h⟩ => absurd h (idle op)⟩, fun h => by simp [free] at h, ?_, ?_⟩
  · simpa [free] using staging
  · simpa [free] using outbox

theorem bounded_withdrawnBy (w : Status) (l : LaneId) (now : Tick) (h : x.bounded) : (x.withdrawnBy w l now).bounded := by
  obtain ⟨reserved, runs, staging, outbox⟩ := h
  refine ⟨reserved, runs, ?_, ?_⟩
  · change (x.staging.map _).length + _ ≤ 4
    rw [List.length_map]
    exact staging
  change (x.outbox ++ x.shadowCompletion l w now).length + 0 ≤ _
  rw [List.length_append, length_shadowCompletion]
  exact outbox

theorem bounded_skipToTail (h : x.bounded) : x.skipToTail.bounded := by
  obtain ⟨-, -, staging, outbox⟩ := h
  refine bounded_of_not_reserved rfl (fun op => ?_) ?_ ?_
  · simp only [skipToTail, FetchRead.discard]
    split
    · simp
    · next other => exact other op
  · exact (Nat.le_add_right _ _).trans staging
  · exact outbox.trans (by split <;> omega)

/-- A lane with other work in its context, fewer staged entries and no more completions to post. -/
theorem bounded_of_less {y : LaneState} (h : x.bounded) (reserved : y.reserved = x.reserved) (fetch : y.fetch = x.fetch)
    (runs : x.run = .run ∨ x.run = .tripped → y.run = .run ∨ y.run = .tripped)
    (staging : y.staging.length ≤ x.staging.length)
    (outbox : y.outbox.length + (if y.shadow.isSome then 1 else 0) ≤ x.outbox.length + (if x.shadow.isSome then 1 else 0)) :
    y.bounded := by
  obtain ⟨iff, mode, places, completions⟩ := h
  refine ⟨by rw [reserved, fetch]; exact iff, fun h => runs (mode (reserved ▸ h)), ?_, ?_⟩
  · rw [reserved]
    omega
  · rw [reserved]
    omega

end LaneState

theorem length_grantOldest (bs : List Nat) (q : List Entry) : (grantOldest bs q).length = q.length := by
  induction q with
  | nil => rfl
  | cons e q ih =>
    simp only [grantOldest]
    split
    · rfl
    · simp [ih]

theorem LanesBounded.setLane (h : LanesBounded s) {l : LaneId} {x : LaneState} (hx : x.bounded) :
    LanesBounded (s.setLane l x) := fun k => by
  rw [State.lane_setLane]
  split
  · exact hx
  · exact h k

theorem Move.keeps_lanesBounded (move : Move G P s t) (h : LanesBounded s) : LanesBounded t := by
  have lessWork {l : LaneId} {x : LaneState} (reserved : x.reserved = (s.lane l).reserved)
      (fetch : x.fetch = (s.lane l).fetch) (mode : x.run = (s.lane l).run)
      (staging : x.staging.length ≤ (s.lane l).staging.length) (outbox : x.outbox.length ≤ (s.lane l).outbox.length)
      (shadow : x.shadow = (s.lane l).shadow) : LanesBounded (s.setLane l x) :=
    h.setLane (LaneState.bounded_of_less (h l) reserved fetch (mode ▸ id) staging (by rw [shadow]; omega))
  cases move with
  | aside same => simpa only [LanesBounded, State.lane, same.lanes] using h
  | groupJoined active claiming joins => exact lessWork rfl rfl rfl le_rfl le_rfl rfl
  | @blocksGranted r rest e queue oldest fits =>
    intro k
    rw [movedBlocks_lane]
    split
    · exact LaneState.bounded_of_less (h r.lane) rfl rfl id (length_grantOldest _ _).le le_rfl
    · exact h k
  | loadIssued l op => exact lessWork rfl rfl rfl (startOldestRead_length _ _).le le_rfl rfl
  | loadAccepted staged loading unmarked =>
    exact lessWork rfl rfl rfl (List.length_set ..).le le_rfl rfl
  | loadFailed st staged loading => exact lessWork rfl rfl rfl (List.length_set ..).le le_rfl rfl
  | ringMoved l consumer tail => exact lessWork rfl rfl rfl le_rfl le_rfl rfl
  | restarted m =>
    intro l
    rw [startLanes_lane]
    refine LaneState.bounded_of_less (h l) rfl rfl (fun runs => ?_) le_rfl le_rfl
    dsimp only
    split
    · exact .inl rfl
    · exact runs
  | @fetchIssued l op can =>
    simp only [LaneState.eligible, LaneState.room, Bool.and_eq_true, beq_iff_eq, decide_eq_true_eq,
      List.isEmpty_iff] at can
    obtain ⟨⟨⟨fetches, -⟩, idle⟩, ⟨places, -⟩, empty⟩ := can
    have free : (s.lane l).reserved = false := by
      by_contra set
      obtain ⟨op', live⟩ := (h l).1.1 (by simpa using set)
      rw [idle] at live
      cases live
    refine h.setLane ⟨⟨fun _ => ⟨op, rfl⟩, fun _ => rfl⟩, fun _ => ?_, ?_, ?_⟩
    · cases mode : (s.lane l).run <;> simp [mode, RunState.fetches] at fetches ⊢
    · simpa [free, Config.stagingPlaces] using places
    · simp only [empty, List.length_nil, Nat.zero_add, if_true]
      split <;> decide
  | @fetchDropped l op discarded =>
    have free := LaneState.not_reserved_of_discarded (h l) discarded
    have outbox := (h l).2.2.2
    have staging := (h l).2.2.1
    simp only [free] at outbox staging
    exact h.setLane (LaneState.bounded_of_not_reserved free (fun _ => by simp) staging outbox)
  | @recordStaged l op r consumer live other =>
    have reserved := LaneState.reserved_of_live (h l) live
    obtain ⟨-, -, staging, outbox⟩ := h l
    simp only [reserved, if_true] at staging outbox
    exact h.setLane (LaneState.bounded_of_not_reserved rfl (fun _ => by simp) (by simpa using staging) (by simp only; omega))
  | @fetchFailed l op live =>
    have reserved := LaneState.reserved_of_live (h l) live
    obtain ⟨-, -, staging, outbox⟩ := h l
    simp only [reserved, if_true] at staging outbox
    exact h.setLane (LaneState.bounded_of_not_reserved rfl (fun _ => by simp) (by simpa using staging) (by simp only; omega))
  | @retuneRefused l op consumer c live =>
    have reserved := LaneState.reserved_of_live (h l) live
    obtain ⟨-, -, staging, outbox⟩ := h l
    simp only [reserved, if_true] at staging outbox
    exact h.setLane (LaneState.bounded_of_not_reserved rfl (fun _ => by simp) (by simp only; omega)
      (by simp only [List.length_append, List.length_singleton]; omega))
  | @shadowDeposited l op r consumer live running valid =>
    have reserved := LaneState.reserved_of_live (h l) live
    obtain ⟨-, -, staging, outbox⟩ := h l
    simp only [reserved, if_true] at staging outbox
    exact h.setLane (LaneState.bounded_of_not_reserved rfl (fun _ => by simp) (by simp only; omega)
      (by simp only [List.length_append, LaneState.length_shadowCompletion, Option.isSome_some, if_true]; omega))
  | @taken l e q a skip mode empty head plain done resumed =>
    refine h.setLane (LaneState.bounded_of_less (h l) rfl rfl (fun runs => ?_) (by simp [head]) le_rfl)
    rcases resumed with same | ⟨-, running⟩
    · exact same ▸ runs
    · exact .inl running
  | burstTaken skip empty head ready burst => exact lessWork rfl rfl rfl (by simp [head]) le_rfl rfl
  | markTaken skip empty head ready mark => exact lessWork rfl rfl rfl (by simp [head]) le_rfl rfl
  | skipTaken empty done => exact lessWork rfl rfl rfl le_rfl le_rfl rfl
  | retired a st active blocks leaves => exact lessWork rfl rfl rfl le_rfl le_rfl rfl
  | startWaits active claiming => exact lessWork rfl rfl rfl le_rfl le_rfl rfl
  | boundary a e j v active same plays leaves => exact lessWork rfl rfl rfl le_rfl le_rfl rfl
  | engineMoved e' stats active playing fits => exact lessWork rfl rfl rfl le_rfl le_rfl rfl
  | contextEmptied skip active retiring => exact lessWork rfl rfl rfl le_rfl le_rfl rfl
  | withdrawn w after l how =>
    refine h.setLane (l := l) (x := after ((s.lane l).withdrawnBy w l s.timebase)) ?_
    have gone := LaneState.bounded_withdrawnBy w l s.timebase (h l)
    rcases how with rfl | rfl
    · exact LaneState.bounded_skipToTail gone
    · exact LaneState.bounded_of_less gone rfl rfl (fun _ => .inr rfl) le_rfl le_rfl
  | shadowResolved l st =>
    refine h.setLane (LaneState.bounded_of_less (h l) rfl rfl id le_rfl ?_)
    simp [LaneState.shadowResolved, LaneState.length_shadowCompletion]
  | outboxTaken outbox => exact lessWork rfl rfl rfl le_rfl (by simp [outbox]) rfl
  | dropped =>
    intro l
    rw [State.lane, dropWork, mapTable_get]
    exact LaneState.bounded_of_empty .off
  | reset =>
    intro l
    rw [State.lane, resetPart, State.reset, replicate_get]
    exact LaneState.bounded_of_empty .off
  | entered d entries =>
    intro l
    rw [State.lane, enterOn, enterTrips, enterQualifier, loadSetup, mapTable_get]
    exact LaneState.bounded_of_empty .run
  | _ => exact h

/-- Settles O54. -/
theorem stepKeepsLanesBounded : Obligations.StepKeepsLanesBounded :=
  fun _ _ => step_keeps Move.keeps_lanesBounded

/-! ### Groups (R58, R59, R69, R70) -/

theorem readyNowhere_of_context {l : LaneId} {a : Active} (h : GroupsSound s) (active : (s.lane l).active = some a)
    (other : a.context ≠ .groupWait) : ReadyNowhere s l := fun g => by
  by_contra ready
  obtain ⟨b, active', waits, -⟩ := (h g).2.2 l (by simpa using ready)
  rw [active] at active'
  cases active'
  exact other waits

theorem readyNowhere_of_empty {l : LaneId} (h : GroupsSound s) (empty : (s.lane l).active = none) : ReadyNowhere s l :=
  fun g => by
    by_contra ready
    obtain ⟨b, active, -⟩ := (h g).2.2 l (by simpa using ready)
    rw [empty] at active
    cases active

theorem readyNowhere_of_mayLeave {l : LaneId} {a : Active} (h : GroupsSound s) (premise : G)
    (active : (s.lane l).active = some a) (leaves : MayLeave G s l a) : ReadyNowhere s l :=
  leaves.elim (readyNowhere_of_context h active) (· premise)

/-- The groups go on being sound when only lanes ready in none of them change their active entry. -/
theorem GroupsSound.of_lanes (h : GroupsSound s) (groups : t.groups = s.groups)
    (lanes : ∀ l, ReadyNowhere s l ∨ (t.lane l).active = (s.lane l).active) : GroupsSound t := fun g => by
  have same : t.group g = s.group g := congrArg (·.get g) groups
  obtain ⟨idle, inside, waits⟩ := h g
  refine ⟨same ▸ idle, same ▸ inside, fun l ready => ?_⟩
  rw [same] at ready
  rcases lanes l with nowhere | active
  · rw [nowhere g] at ready
    cases ready
  · exact active ▸ waits l ready

theorem GroupsSound.setLane (h : GroupsSound s) {l : LaneId} {x : LaneState}
    (lane : ReadyNowhere s l ∨ x.active = (s.lane l).active) : GroupsSound (s.setLane l x) :=
  h.of_lanes rfl fun k => by
    rw [State.lane_setLane]
    split
    · next own => exact own ▸ lane
    · exact .inr rfl

theorem groupsSound_of_idle (idle : ∀ g, s.group g = Group.idle) : GroupsSound s := fun g => by
  have ready (l : LaneId) : inMask (s.group g).ready l = false := by simp [idle g, Group.idle, inMask]
  exact ⟨fun _ => idle g, fun l h => by simp [ready l] at h, fun l h => by simp [ready l] at h⟩

theorem inMask_or (m n : LaneMask) (l : LaneId) : inMask (m ||| n) l = (inMask m l || inMask n l) := BitVec.getLsbD_or

theorem inMask_laneBit : ∀ l k : LaneId, inMask (laneBit l) k = decide (l = k) := by decide

theorem Group.commit_masks (now : Tick) (g : Group) : (g.commit now).member = g.member
    ∧ (g.commit now).ready = g.ready ∧ ((g.commit now).state = .idle → g.state = .idle) := by
  simp only [Group.commit]
  split
  · split <;> exact ⟨rfl, rfl, nofun⟩
  · exact ⟨rfl, rfl, id⟩

/-- A group that a lane joins is not IDLE and has the lane as a ready member, its ready lanes besides being those it
had, all of them members (R61 to R63). -/
theorem Group.arrive_some {l : LaneId} {a : Arrival} {now : Tick} {g x : Group}
    (inside : ∀ k, inMask g.ready k = true → inMask g.member k = true) (joins : g.arrive l a now = some x) :
    x.state ≠ .idle ∧ ∀ k, inMask x.ready k = true → inMask x.member k = true ∧ (k = l ∨ inMask g.ready k = true) := by
  have masks {y : Group} (state : y.state ≠ .idle)
      (lanes : ∀ k, inMask y.ready k = true → inMask y.member k = true ∧ (k = l ∨ inMask g.ready k = true)) :
      (y.commit now).state ≠ .idle ∧ ∀ k, inMask (y.commit now).ready k = true →
        inMask (y.commit now).member k = true ∧ (k = l ∨ inMask g.ready k = true) := by
    obtain ⟨member, ready, still⟩ := y.commit_masks now
    rw [member, ready]
    exact ⟨mt still state, lanes⟩
  cases state : g.state with
  | idle =>
    rw [Group.arrive_of_idle state] at joins
    split at joins
    · next member =>
      cases joins
      refine masks (fun h => by cases h) fun k ready => ?_
      simp only [Group.form, inMask_laneBit, decide_eq_true_eq] at ready ⊢
      exact ready ▸ ⟨member, .inl rfl⟩
    · cases joins
  | forming =>
    rw [Group.arrive_of_forming state] at joins
    split at joins
    · next fits =>
      cases joins
      refine masks (by simp [state]) fun k ready => ?_
      simp only [inMask_or, inMask_laneBit, Bool.or_eq_true, decide_eq_true_eq] at ready ⊢
      rcases ready with before | rfl
      · exact ⟨inside k before, .inr before⟩
      · exact ⟨((Group.matches_iff ..).1 fits).2.1, .inl rfl⟩
    · cases joins
  | committed =>
    rw [Group.arrive_of_committed state] at joins
    cases joins

/-- What a lane's leaving keeps of a group, and that the lane is then not ready in it (R69, R70). -/
theorem Group.leave_sound {l : LaneId} {g : Group} (idle : g.state = .idle → g = Group.idle) :
    ((g.leave l).state = .idle → g.leave l = Group.idle) ∧ inMask (g.leave l).ready l = false
      ∧ ∀ k, inMask (g.leave l).ready k = true → inMask g.ready k = true ∧ (g.leave l).member = g.member := by
  have cleared : ∀ (m : LaneMask) (l : LaneId), inMask (m &&& ~~~laneBit l) l = false := by decide
  have fewer : ∀ (m : LaneMask) (l k : LaneId), inMask (m &&& ~~~laneBit l) k = true → inMask m k = true := by decide
  have none (k : LaneId) : inMask Group.idle.ready k = false := by simp [Group.idle, inMask]
  simp only [Group.leave]
  split
  · next member =>
    split
    · exact ⟨fun _ => rfl, none l, fun k h => by simp [none k] at h⟩
    · exact ⟨fun h => absurd h member.1, cleared _ l, fun k h => ⟨fewer _ l k h, rfl⟩⟩
  · next out =>
    refine ⟨idle, ?_, fun k h => ⟨h, rfl⟩⟩
    by_contra ready
    refine out ⟨fun state => ?_, by simpa using ready⟩
    rw [idle state, none l] at ready
    exact ready rfl

theorem Move.keeps_groupsSound (premise : G) (move : Move G P s t) (h : GroupsSound s) : GroupsSound t := by
  have sameActive {l : LaneId} {x : LaneState} (active : x.active = (s.lane l).active) : GroupsSound (s.setLane l x) :=
    h.setLane (.inr active)
  cases move with
  | aside same => exact h.of_lanes same.groups fun l => .inr (by rw [State.lane, same.lanes]; rfl)
  | groupEnds g =>
    intro k
    rw [State.group_setGroup]
    split
    · exact ⟨fun _ => rfl, fun l hl => by simp [Group.idle, inMask] at hl, fun l hl => by simp [Group.idle, inMask] at hl⟩
    · exact h k
  | @groupJoined l a x active claiming joins =>
    obtain ⟨-, inside, -⟩ := h (burstOf a.record).group
    obtain ⟨busy, lanes⟩ := Group.arrive_some inside joins
    have nowhere := readyNowhere_of_context h active (by simp [claiming])
    have waiting {g : GroupId} {k : LaneId} (ready : inMask (s.group g).ready k = true) :
        ∃ b, ((setContext l a .groupWait (s.setGroup (burstOf a.record).group x)).lane k).active = some b
          ∧ b.context = .groupWait ∧ (burstOf b.record).group = g := by
      have other : l ≠ k := fun own => by simp [own ▸ nowhere g] at ready
      simpa [setContext, other] using (h g).2.2 k ready
    intro g
    simp only [setContext, State.setActive_eq, State.setLane_group, State.group_setGroup]
    split
    · next own =>
      refine ⟨fun state => absurd state busy, fun k ready => (lanes k ready).1, fun k ready => ?_⟩
      rcases (lanes k ready).2 with rfl | before
      · exact ⟨{ a with context := .groupWait }, by rw [State.lane_setLane, if_pos rfl], rfl, own⟩
      · exact own ▸ waiting before
    · exact ⟨(h g).1, (h g).2.1, fun k ready => waiting ready⟩
  | blocksGranted queue oldest fits =>
    refine h.of_lanes rfl fun k => .inr ?_
    rw [movedBlocks_lane]
    split
    · next own => rw [own]
    · rfl
  | restarted m => exact h.of_lanes rfl fun l => .inr (by rw [startLanes_lane])
  | taken skip mode empty head plain done resumed => exact h.setLane (.inl (readyNowhere_of_empty h empty))
  | burstTaken skip empty head ready burst => exact h.setLane (.inl (readyNowhere_of_empty h empty))
  | markTaken skip empty head ready mark => exact h.setLane (.inl (readyNowhere_of_empty h empty))
  | skipTaken empty done => exact h.setLane (.inl (readyNowhere_of_empty h empty))
  | retired a st active blocks leaves => exact h.setLane (.inl (readyNowhere_of_mayLeave h premise active leaves))
  | startWaits active claiming => exact h.setLane (.inl (readyNowhere_of_context h active (by simp [claiming])))
  | boundary a e j v active same plays leaves =>
    exact h.setLane (.inl (readyNowhere_of_mayLeave h premise active leaves))
  | engineMoved e' stats active playing fits =>
    exact h.setLane (.inl (readyNowhere_of_context h active (by simp [playing])))
  | contextEmptied skip active retiring =>
    exact h.setLane (.inl (readyNowhere_of_context h active (by simp [retiring])))
  | withdrawn w after l how =>
    intro g
    obtain ⟨idle, inside, waits⟩ := h g
    obtain ⟨still, out, fewer⟩ := Group.leave_sound (l := l) idle
    simp only [State.group, mapTable_get] at still out fewer ⊢
    refine ⟨still, fun k ready => (fewer k ready).2 ▸ inside k (fewer k ready).1, fun k ready => ?_⟩
    have other : l ≠ k := by
      rintro rfl
      rw [out] at ready
      cases ready
    simpa only [State.lane, setTable_get, other, if_false] using waits k (fewer k ready).1
  | dropped | entered => exact groupsSound_of_idle fun g => mapTable_get _ s.groups g
  | reset => exact groupsSound_of_idle fun g => replicate_get _ g
  | loadIssued | loadAccepted | loadFailed | ringMoved | fetchIssued | fetchDropped | recordStaged | fetchFailed
  | retuneRefused | shadowDeposited | shadowResolved | outboxTaken => exact sameActive rfl
  | _ => exact h

/-- Settles O52. -/
theorem stepKeepsGroupsSound : Obligations.StepKeepsGroupsSound :=
  fun s _ sound h => (step_moves (G := GroupsSound s) (P := False) id False.elim h).keeps
    (fun move => move.keeps_groupsSound sound) sound

end

end Sys2Proof.Machine
end

section
/-! The partition of the 256 blocks (R24, R25) and the TRIPPED lanes (R2, R107): each move takes blocks from one place to
another, and none gives a TRIPPED lane pins, a claim, a shadow pace or work. -/

namespace Sys2Proof.Machine

section
variable {G P : Prop} {s t : State}

/-! ### Where the blocks are (R24) -/

/-- The entries of a lane that may hold no blocks hold none (R5, R16). -/
def LaneState.blocksFit (x : LaneState) : Prop :=
  (∀ e ∈ x.staging, e.blocksFit) ∧ ∀ a, x.active = some a → a.blocksFit

/-- The blocks of a lane's active entry. -/
def LaneState.activeBlocks (x : LaneState) : List Nat := x.active.elim [] Active.blocks

theorem lanesBlocks_eq (x : LaneState) : lanesBlocks x = x.activeBlocks ++ x.staging.flatMap Entry.blocks := by
  simp only [lanesBlocks, LaneState.activeBlocks]
  cases x.active <;> rfl

/-- The occurrences of a block in all lanes, lane `l`'s replaced. -/
theorem count_lanes_of_others {f g : LaneId → Nat} {l : LaneId} (others : ∀ k, k ≠ l → f k = g k) :
    (allLanes.map f).sum + g l = (allLanes.map g).sum + f l := by
  have h0 := others 0
  have h1 := others 1
  have h2 := others 2
  have h3 := others 3
  simp only [allLanes, List.map_cons, List.map_nil, List.sum_cons, List.sum_nil]
  fin_cases l <;> simp at h0 h1 h2 h3 ⊢ <;> omega

/-- Blocks moved between the free list and one lane. -/
theorem BlocksPartitioned.of_lane (h : BlocksPartitioned s) {l : LaneId} (others : ∀ k, k ≠ l → t.lane k = s.lane k)
    (moved : (t.alloc.free ++ lanesBlocks (t.lane l)).Perm (s.alloc.free ++ lanesBlocks (s.lane l)))
    (fits : (t.lane l).blocksFit) : BlocksPartitioned t := by
  obtain ⟨parts, lanes⟩ := h
  refine ⟨List.perm_iff_count.2 fun b => ?_, fun k => ?_⟩
  · have before := List.perm_iff_count.1 parts b
    have here := List.perm_iff_count.1 moved b
    have sum := count_lanes_of_others (l := l) (f := fun k => (lanesBlocks (t.lane k)).count b)
      (g := fun k => (lanesBlocks (s.lane k)).count b) fun k other => by rw [others k other]
    simp only [heldBlocks, List.count_append, List.count_flatMap, Function.comp_def] at before here ⊢
    omega
  · by_cases own : k = l
    · exact own ▸ fits
    · exact others k own ▸ lanes k

theorem BlocksPartitioned.setLane (h : BlocksPartitioned s) {l : LaneId} {x : LaneState}
    (same : lanesBlocks x = lanesBlocks (s.lane l)) (fits : x.blocksFit) : BlocksPartitioned (s.setLane l x) :=
  have lane : (s.setLane l x).lane l = x := by simp
  h.of_lane (fun k other => by simp [other.symm]) (by rw [lane, same]; rfl) (lane ▸ fits)

/-- Of a lane only what holds no blocks has changed. -/
theorem BlocksPartitioned.setLane_work (h : BlocksPartitioned s) {l : LaneId} {x : LaneState}
    (staging : x.staging = (s.lane l).staging) (active : x.active = (s.lane l).active) :
    BlocksPartitioned (s.setLane l x) :=
  h.setLane (by rw [lanesBlocks, lanesBlocks, staging, active]) (by
    rw [LaneState.blocksFit, staging, active]
    exact h.2 l)

/-- Of a lane only the active entry has changed, and holds the same blocks. -/
theorem BlocksPartitioned.setActive (h : BlocksPartitioned s) {l : LaneId} {a₀ a : Active}
    (active : (s.lane l).active = some a₀) (blocks : a.blocks = a₀.blocks)
    (fits : a.blocksFit) : BlocksPartitioned (s.setActive l (some a)) :=
  h.setLane (by simp [lanesBlocks, active, blocks]) ⟨(h.2 l).1, fun b eq => by
    cases eq
    exact fits⟩

theorem Active.blocksFit_of_context {a : Active} {c : Context} (context : a.context = c)
    (other : ∀ st t, c ≠ .retiring st t) : a.blocksFit :=
  fun st t h => absurd (context ▸ h) (other st t)

theorem Active.done.blocksFit {a : Active} (done : a.done) : a.blocksFit := fun _ _ _ => done.2

theorem blocksPartitioned_of_empty (free : s.alloc.free = List.range 256)
    (empty : ∀ l, (s.lane l).staging = [] ∧ (s.lane l).active = none) : BlocksPartitioned s := by
  have none (l : LaneId) : lanesBlocks (s.lane l) = [] := by simp [lanesBlocks, empty l]
  refine ⟨by simp [heldBlocks, none, free, allLanes], fun l => ⟨fun e he => ?_, fun a ha => ?_⟩⟩
  · simp [(empty l).1] at he
  · simp [(empty l).2] at ha

/-! ### Staging entries -/

theorem mem_of_entryAt {l : LaneId} {k : Nat} {e : Entry} (staged : entryAt l k s = some e) :
    e ∈ (s.lane l).staging := List.mem_of_getElem? staged

/-- An entry of a queue, and the queue with it replaced. -/
theorem exists_split_set {α : Type} {q : List α} {k : Nat} {e : α} (h : q[k]? = some e) (e' : α) :
    ∃ older younger, q = older ++ e :: younger ∧ q.set k e' = older ++ e' :: younger := by
  obtain ⟨lt, rfl⟩ := List.getElem?_eq_some_iff.1 h
  exact ⟨q.take k, q.drop (k + 1), by simp, List.set_eq_take_append_cons_drop.trans (by simp [lt])⟩

theorem Entry.blocksFit_of_unread {e e' : Entry} (same : e'.unread = e.unread) (h : e.blocksFit) : e'.blocksFit := by
  simp only [Entry.unread, Entry.mk.injEq] at same
  obtain ⟨kind, -, state, -, blocks, -⟩ := same
  simpa only [Entry.blocksFit, kind, state, blocks] using h

/-- A property of entries that their load progress does not bear on holds after a read is started (R33). -/
theorem forall_mem_startOldestRead {Q : Entry → Prop} (keeps : ∀ {e e' : Entry}, e'.unread = e.unread → Q e → Q e')
    {op : OpId} {q : List Entry} (h : ∀ e ∈ q, Q e) : ∀ e ∈ (startOldestRead op q).2, Q e := by
  intro e he
  have mem := List.mem_map_of_mem (f := Entry.unread) he
  rw [startOldestRead_unread] at mem
  obtain ⟨e₀, mem₀, same⟩ := List.mem_map.1 mem
  exact keeps same.symm (h e₀ mem₀)

theorem blocks_startOldestRead (op : OpId) (q : List Entry) :
    (startOldestRead op q).2.flatMap Entry.blocks = q.flatMap Entry.blocks := by
  have unread (q : List Entry) : q.flatMap Entry.blocks = (q.map Entry.unread).flatMap Entry.blocks := by
    rw [List.flatMap_map]
    rfl
  rw [unread, startOldestRead_unread, ← unread]

theorem blocks_grantOldest {q : List Entry} (fits : ∀ e ∈ q, e.blocksFit) (waiting : oldestWaiting q ≠ none)
    (bs : List Nat) : ((grantOldest bs q).flatMap Entry.blocks).Perm (bs ++ q.flatMap Entry.blocks) := by
  induction q with
  | nil => exact absurd rfl waiting
  | cons e q ih =>
    simp only [grantOldest]
    split
    · next waits =>
      have none : e.blocks = [] := (fits e (List.mem_cons_self ..)).1 (.inl waits)
      simp [none, Entry.grant]
    · next other =>
      have later := ih (fun x hx => fits x (List.mem_cons_of_mem e hx)) (by simpa [oldestWaiting, other] using waiting)
      simpa [← List.append_assoc] using (later.append_left e.blocks).trans
        (by simpa using List.perm_append_comm.append_right (q.flatMap Entry.blocks))

/-- What the grant of the oldest waiting entry keeps of all entries. -/
theorem forall_mem_grantOldest {Q : Entry → Prop} {q : List Entry} {bs : List Nat}
    (keeps : ∀ e, oldestWaiting q = some e → e ∈ q → Q e → Q (e.grant bs)) (h : ∀ e ∈ q, Q e) :
    ∀ e ∈ grantOldest bs q, Q e := by
  induction q with
  | nil => exact h
  | cons e q ih =>
    have head := List.mem_cons_self (a := e) (l := q)
    simp only [grantOldest]
    split
    · next waits =>
      have oldest : oldestWaiting (e :: q) = some e := by simp [oldestWaiting, waits]
      exact List.forall_mem_cons.2 ⟨keeps e oldest head (h e head), fun x hx => h x (List.mem_cons_of_mem e hx)⟩
    · next other =>
      refine List.forall_mem_cons.2 ⟨h e head, ih (fun x oldest hx => ?_) fun x hx => h x (List.mem_cons_of_mem e hx)⟩
      exact keeps x (by simpa [oldestWaiting, other] using oldest) (List.mem_cons_of_mem e hx)

theorem Entry.blocksFit_grant {e : Entry} (waits : e.state = .waitBlocks) (h : e.blocksFit) (bs : List Nat) :
    (e.grant bs).blocksFit :=
  ⟨fun out => absurd (h.2 waits) (out.elim nofun fun rest => rest.elim nofun id), nofun⟩

theorem state_of_oldestWaiting {q : List Entry} {e : Entry} (h : oldestWaiting q = some e) : e.state = .waitBlocks := by
  simpa using List.find?_some h

theorem Entry.blocksFit_fail (st : Status) (e : Entry) : (e.fail st).blocksFit := ⟨fun _ => rfl, nofun⟩

theorem Entry.blocksFit_accept {e : Entry} (loading : e.state = .loading) (h : e.blocksFit) : e.accept.blocksFit := by
  obtain ⟨none, -⟩ := h
  simp only [Entry.accept, Entry.blocksFit]
  split <;> exact ⟨fun out => none (by simpa [loading] using out), nofun⟩

theorem treatRecord_blocks (x : RunState) (r : Bytes 64) : (treatRecord x r).blocks = [] := by
  simp only [treatRecord]
  split
  · split
    · split <;> rfl
    · rfl
  · split
    · split <;> rfl
    · rfl

/-- A record is staged to wait for blocks only as a BURST that passed its checks (R6). -/
theorem treatRecord_waits {x : RunState} {r : Bytes 64} (waits : (treatRecord x r).state = .waitBlocks) :
    (treatRecord x r).kind = kindBurst := by
  simp only [treatRecord] at waits ⊢
  split at waits
  · next running =>
    simp only [running, if_true]
    split at waits
    · next valid =>
      simp only [valid, if_true]
      split at waits
      · next burst =>
        simp only [burst, if_true]
        exact burst
      · cases waits
    · cases waits
  · split at waits
    · split at waits <;> cases waits
    · cases waits

theorem Entry.blocksFit_treatRecord (x : RunState) (r : Bytes 64) : (treatRecord x r).blocksFit :=
  ⟨fun _ => treatRecord_blocks x r, treatRecord_waits⟩

/-! ### Withdrawal (R27) -/

theorem Entry.blocks_withdrawnBy (w : Status) (e : Entry) :
    e.freedByWithdrawal ++ (e.withdrawnBy w).blocks = e.blocks ∧ (e.blocksFit → (e.withdrawnBy w).blocksFit) := by
  have failed : ∀ x : Entry, x.state = .failed → x.blocks = [] → x.blocksFit := fun x state none =>
    ⟨fun _ => none, fun waits => by simp [state] at waits⟩
  rw [Entry.freedByWithdrawal_eq, Entry.withdrawnBy]
  by_cases gone : e.state = .failed ∨ (e.state = .loading ∧ e.status.isSome = true)
  · rw [if_pos gone, if_pos (gone.imp_right fun h => ⟨h.1, .inl h.2⟩)]
    exact ⟨rfl, id⟩
  · rw [if_neg gone]
    by_cases reads : e.state = .loading ∧ e.reading.isSome = true
    · rw [if_pos reads, if_pos (.inr ⟨reads.1, .inr reads.2⟩)]
      exact ⟨rfl, id⟩
    · rw [if_neg reads, if_neg (by tauto)]
      exact ⟨List.append_nil _, fun _ => failed _ rfl rfl⟩

theorem LaneState.blocks_withdrawnBy (w : Status) (l : LaneId) (now : Tick) {x : LaneState} (fits : x.blocksFit) :
    (x.freedAtOnce ++ lanesBlocks (x.withdrawnBy w l now)).Perm (lanesBlocks x) ∧ (x.withdrawnBy w l now).blocksFit := by
  obtain ⟨staged, active⟩ := fits
  have entries : ∀ q : List Entry, (q.flatMap Entry.freedByWithdrawal
      ++ (q.map (Entry.withdrawnBy w)).flatMap Entry.blocks).Perm (q.flatMap Entry.blocks) := fun q => by
    induction q with
    | nil => exact .refl _
    | cons e q ih =>
      simp only [List.flatMap_cons, List.map_cons]
      rw [← (e.blocks_withdrawnBy w).1]
      simp only [List.append_assoc]
      refine .append_left _ (.trans ?_ (ih.append_left _))
      rw [← List.append_assoc, ← List.append_assoc]
      exact List.perm_append_comm.append_right _
  have queue : ∀ e ∈ x.staging.map (Entry.withdrawnBy w), e.blocksFit := fun e he => by
    obtain ⟨e₀, mem, rfl⟩ := List.mem_map.1 he
    exact (e₀.blocks_withdrawnBy w).2 (staged e₀ mem)
  rw [LaneState.freedAtOnce_eq]
  simp only [LaneState.activeFreed, lanesBlocks, LaneState.withdrawnBy, LaneState.blocksFit]
  cases act : x.active with
  | none => exact ⟨entries x.staging, queue, fun _ h => by cases h⟩
  | some a =>
    cases context : a.context with
    | retiring st t =>
      refine ⟨?_, queue, fun b hb => ?_⟩
      · simpa [context, active a act st t context] using entries x.staging
      · simp only [Option.map_some, context, Option.some.injEq] at hb
        subst hb
        exact active a act
    | claiming | groupWait | timeWait | playing =>
      refine ⟨by simpa [context] using (entries x.staging).append_left a.blocks, queue, fun b hb => ?_⟩
      simp only [Option.map_some, context, Option.some.injEq] at hb
      subst hb
      exact fun _ _ _ => rfl

theorem Move.keeps_blocksPartitioned (move : Move G P s t) (h : BlocksPartitioned s) : BlocksPartitioned t := by
  have notBurst {e : Entry} {q : List Entry} {l : LaneId} (head : (s.lane l).staging = e :: q)
      (plain : e.state = .failed ∨ e.kind ≠ kindBurst) : e.blocks = [] :=
    ((h.2 l).1 e (head ▸ List.mem_cons_self ..)).1 (.inr plain)
  have tail {e : Entry} {q : List Entry} {l : LaneId} (head : (s.lane l).staging = e :: q) : ∀ x ∈ q, x.blocksFit :=
    fun x hx => (h.2 l).1 x (head ▸ List.mem_cons_of_mem e hx)
  have appended {e : Entry} {l : LaneId} {x : LaneState} (staging : x.staging = (s.lane l).staging ++ [e])
      (active : x.active = (s.lane l).active) (none : e.blocks = []) (fits : e.blocksFit) :
      BlocksPartitioned (s.setLane l x) := by
    refine h.setLane (by simp [lanesBlocks, staging, active, none]) ⟨?_, active ▸ (h.2 l).2⟩
    rw [staging]
    exact List.forall_mem_append.2 ⟨(h.2 l).1, by simpa using fits⟩
  have empty (u : State) (free : u.alloc = Allocator.reset)
      (lanes : ∀ l, (u.lane l).staging = [] ∧ (u.lane l).active = none) : BlocksPartitioned u :=
    blocksPartitioned_of_empty (by rw [free, Allocator.reset, Config.storeBlocks]) lanes
  cases move with
  | aside same => simpa only [BlocksPartitioned, heldBlocks, State.lane, same.lanes, same.alloc] using h
  | groupJoined active claiming joins => exact h.setActive active rfl (Active.blocksFit_of_context rfl nofun)
  | @blocksGranted r rest e queue oldest fits =>
    have lane (k : LaneId) := movedBlocks_lane r rest s k
    have waits : oldestWaiting (s.lane r.lane).staging ≠ none := by simp [oldest]
    refine h.of_lane (l := r.lane) (fun k other => by rw [lane, if_neg other]) ?_ ?_
    · rw [lane, if_pos rfl]
      have granted := blocks_grantOldest (h.2 r.lane).1 waits (s.alloc.free.take r.need)
      simp only [lanesBlocks_eq]
      refine .trans (.append_left _ (granted.append_left (s.lane r.lane).activeBlocks)) ?_
      refine List.perm_iff_count.2 fun b => ?_
      have whole := congrArg (List.count b) (List.take_append_drop r.need s.alloc.free)
      simp only [List.count_append, movedBlocks] at whole ⊢
      change List.count b (s.alloc.free.drop r.need) + _ = _
      omega
    · rw [lane, if_pos rfl]
      refine ⟨forall_mem_grantOldest (fun x oldest' _ fits => ?_) (h.2 r.lane).1, (h.2 r.lane).2⟩
      exact Entry.blocksFit_grant (state_of_oldestWaiting oldest') fits _
  | loadIssued l op =>
    exact h.setLane (by simp [lanesBlocks, blocks_startOldestRead])
      ⟨forall_mem_startOldestRead Entry.blocksFit_of_unread (h.2 l).1, (h.2 l).2⟩
  | @loadAccepted l k e staged loading unmarked =>
    obtain ⟨older, younger, before, after⟩ := exists_split_set staged e.accept
    have fits := (h.2 l).1
    simp only [setEntry, State.setStaging_eq, after]
    refine h.setLane ?_ ⟨?_, (h.2 l).2⟩
    · simp only [lanesBlocks_eq, LaneState.activeBlocks, before, List.flatMap_append, List.flatMap_cons]
      rfl
    · rw [before] at fits
      simp only [List.forall_mem_append, List.forall_mem_cons] at fits ⊢
      exact ⟨fits.1, Entry.blocksFit_accept loading fits.2.1, fits.2.2⟩
  | @loadFailed l k e st staged loading =>
    obtain ⟨older, younger, before, after⟩ := exists_split_set staged (e.fail st)
    have fits := (h.2 l).1
    have lane : (freeBlocks e.blocks (setEntry l k (e.fail st) s)).lane l
        = { s.lane l with staging := older ++ e.fail st :: younger } := by
      simp [setEntry, after]
    refine h.of_lane (l := l) (fun j other => by simp [setEntry, other.symm]) ?_ ?_
    · rw [lane]
      refine List.perm_iff_count.2 fun b => ?_
      change List.count b ((s.alloc.free ++ e.blocks) ++ _) = _
      simp only [lanesBlocks_eq, LaneState.activeBlocks, before, Entry.fail, List.flatMap_append,
        List.flatMap_cons, List.count_append, List.count_nil]
      omega
    · rw [lane]
      refine ⟨?_, (h.2 l).2⟩
      rw [before] at fits
      simp only [List.forall_mem_append, List.forall_mem_cons] at fits ⊢
      exact ⟨fits.1, Entry.blocksFit_fail st e, fits.2.2⟩
  | restarted m =>
    refine ⟨?_, fun l => ?_⟩
    · have same : ∀ l, lanesBlocks ((startLanes m s).lane l) = lanesBlocks (s.lane l) := fun l => by
        rw [startLanes_lane]
        rfl
      have held : heldBlocks (startLanes m s) = heldBlocks s := by simp only [heldBlocks, same]
      have free : (startLanes m s).alloc.free = s.alloc.free := rfl
      rw [held, free]
      exact h.1
    · rw [startLanes_lane]
      exact h.2 l
  | recordStaged r consumer live other =>
    exact appended rfl rfl (treatRecord_blocks _ r) (Entry.blocksFit_treatRecord _ r)
  | fetchFailed live => exact appended rfl rfl rfl ⟨fun _ => rfl, nofun⟩
  | taken skip mode empty head plain done resumed =>
    have none := notBurst head (plain.imp_right And.right)
    refine h.setLane (by simp [lanesBlocks, head, empty, none, done.2]) ⟨tail head, fun b eq => ?_⟩
    cases eq
    exact done.blocksFit
  | burstTaken skip empty head ready burst =>
    refine h.setLane (by simp [lanesBlocks, head, empty, Active.taken_]) ⟨tail head, fun b eq => ?_⟩
    cases eq
    exact Active.blocksFit_of_context rfl nofun
  | markTaken skip empty head ready mark =>
    have none := notBurst head (.inr (by rw [mark]; decide))
    refine h.setLane (by simp [lanesBlocks, head, empty, none, Active.taken_]) ⟨tail head, fun b eq => ?_⟩
    cases eq
    exact Active.blocksFit_of_context rfl nofun
  | @skipTaken l a empty done =>
    refine h.setLane (by simp [lanesBlocks, empty, done.2]) ⟨(h.2 l).1, fun b eq => ?_⟩
    cases eq
    exact done.blocksFit
  | @retired l a₀ a st active blocks leaves =>
    have lane : (freeBlocks a.blocks (s.setActive l (some (a.retire st s.timebase)))).lane l
        = { s.lane l with active := some (a.retire st s.timebase) } := by simp
    refine h.of_lane (l := l) (fun k other => by simp [other.symm]) ?_ ?_
    · rw [lane]
      simp [lanesBlocks, active, blocks, Active.retire, freeBlocks]
    · rw [lane]
      refine ⟨(h.2 l).1, fun b eq => ?_⟩
      cases eq
      exact fun _ _ _ => rfl
  | @startWaits l a active claiming =>
    refine h.setActive active rfl fun st t context => ?_
    simp only [startWait] at context
    split at context
    · split at context <;> cases context
    · cases context
  | boundary a e j v active same plays leaves =>
    exact h.setActive active same.2.2 (Active.blocksFit_of_context rfl nofun)
  | engineMoved e' stats active playing fits => exact h.setActive active rfl (Active.blocksFit_of_context rfl nofun)
  | @contextEmptied l a st t skip active retiring =>
    refine h.setLane ?_ ⟨(h.2 l).1, fun _ h => by cases h⟩
    simp [lanesBlocks, active, (h.2 l).2 a active st t retiring]
  | withdrawn w after l how =>
    obtain ⟨blocks, fits⟩ := LaneState.blocks_withdrawnBy w l s.timebase (h.2 l)
    have same : lanesBlocks (after ((s.lane l).withdrawnBy w l s.timebase))
          = lanesBlocks ((s.lane l).withdrawnBy w l s.timebase)
        ∧ (after ((s.lane l).withdrawnBy w l s.timebase)).blocksFit := by
      rcases how with rfl | rfl <;> exact ⟨rfl, fits⟩
    refine h.of_lane (l := l) (fun k other => ?_) ?_ ?_
    · exact (setTable_get ..).trans (if_neg other.symm)
    · change (s.alloc.free ++ (s.lane l).freedAtOnce ++ lanesBlocks ((setTable s.lanes l _).get l)).Perm _
      rw [setTable_get, if_pos rfl, same.1, List.append_assoc]
      exact blocks.append_left _
    · change LaneState.blocksFit ((setTable s.lanes l _).get l)
      rw [setTable_get, if_pos rfl]
      exact same.2
  | ringMoved | fetchIssued | fetchDropped | retuneRefused | shadowDeposited | shadowResolved | outboxTaken =>
    exact h.setLane_work rfl rfl
  | dropped =>
    refine empty _ rfl fun l => ?_
    rw [State.lane, dropWork, mapTable_get]
    exact ⟨rfl, rfl⟩
  | reset =>
    refine empty _ rfl fun l => ?_
    rw [State.lane, resetPart, State.reset, replicate_get]
    exact ⟨rfl, rfl⟩
  | entered d entries =>
    refine empty _ rfl fun l => ?_
    rw [State.lane, enterOn, enterTrips, enterQualifier, loadSetup, mapTable_get]
    exact ⟨rfl, rfl⟩
  | _ => exact h

/-- Settles O50. -/
theorem stepKeepsBlocksPartitioned : Obligations.StepKeepsBlocksPartitioned :=
  fun _ _ => step_keeps Move.keeps_blocksPartitioned

end

end Sys2Proof.Machine
end

section
/-! TRIPPED lanes (R2, R107), bursts on their way to play (R6, R7, R24, R28, R74, R103, R104), and what follows from fit
bursts: that no command meets a vector without a store position. -/

namespace Sys2Proof.Machine

section
variable {G P : Prop} {s t : State}

/-! ### TRIPPED lanes -/

/-- The work of a TRIPPED lane. -/
def LaneState.drained (x : LaneState) : Prop :=
  x.shadow = none ∧ (∀ a, x.active = some a → ∃ st t, a.context = .retiring st t) ∧ ∀ e ∈ x.staging, e.trippedFit

theorem TrippedIsDrained.drained (h : TrippedIsDrained s) {l : LaneId} (tripped : (s.lane l).run = .tripped) :
    (s.lane l).drained := (h l tripped).2.2

/-- The lanes go on, and who owns a pin or has a claim waiting is as before, or is not TRIPPED. -/
theorem TrippedIsDrained.of_shared (h : TrippedIsDrained s) (lanes : t.lanes = s.lanes)
    (owners : ∀ (n : PinId) l, (t.pins.get n).owner = some l →
      (s.pins.get n).owner = some l ∨ (s.lane l).run ≠ .tripped)
    (claims : ∀ c ∈ t.claims, c ∈ s.claims ∨ (s.lane c.lane).run ≠ .tripped) : TrippedIsDrained t := by
  intro l tripped
  have same : t.lane l = s.lane l := by rw [State.lane, lanes]; rfl
  rw [same] at tripped ⊢
  obtain ⟨pins, waiting, drained⟩ := h l tripped
  refine ⟨forall_mem_toList_iff.2 fun n own => ?_, fun c hc own => ?_, drained⟩
  · exact (owners n l own).elim (forall_mem_toList_iff.1 pins n) (absurd tripped)
  · exact (claims c hc).elim (fun before => waiting c before own) (fun free => free (own ▸ tripped))

/-- One lane changes: if it is TRIPPED, it was, and its work is still that of a TRIPPED lane. -/
theorem TrippedIsDrained.setLane (h : TrippedIsDrained s) {l : LaneId} {x : LaneState}
    (drains : x.run = .tripped → (s.lane l).run = .tripped ∧ ((s.lane l).drained → x.drained)) :
    TrippedIsDrained (s.setLane l x) := by
  intro k tripped
  rw [State.lane_setLane] at tripped ⊢
  split at tripped
  · next own =>
    subst own
    obtain ⟨before, work⟩ := drains tripped
    obtain ⟨pins, waiting, drained⟩ := h l before
    rw [if_pos rfl]
    exact ⟨pins, waiting, work drained⟩
  · next other =>
    rw [if_neg other]
    exact h k tripped

/-- An entry that is not RETIRING is not the active entry of a TRIPPED lane. -/
theorem TrippedIsDrained.not_tripped (h : TrippedIsDrained s) {l : LaneId} {a : Active}
    (active : (s.lane l).active = some a) (other : ∀ st t, a.context ≠ .retiring st t) : (s.lane l).run ≠ .tripped := by
  intro tripped
  obtain ⟨st, t, context⟩ := (h.drained tripped).2.1 a active
  exact other st t context

theorem TrippedIsDrained.not_tripped_of_claiming (h : TrippedIsDrained s) {l : LaneId} (claiming : Claiming s l) :
    (s.lane l).run ≠ .tripped := by
  obtain ⟨a, active, context⟩ := claiming
  exact h.not_tripped active (by simp [context])

theorem Entry.trippedFit_of_unread {e e' : Entry} (same : e'.unread = e.unread) (h : e.trippedFit) : e'.trippedFit := by
  simp only [Entry.unread, Entry.mk.injEq] at same
  obtain ⟨kind, -, state, status, -⟩ := same
  simpa only [Entry.trippedFit, kind, state, status] using h

theorem treatRecord_trippedFit {x : RunState} (tripped : x = .tripped) (r : Bytes 64) :
    (treatRecord x r).trippedFit := by
  subst tripped
  simp only [treatRecord, reduceCtorEq, if_false]
  split
  · next resume =>
    split
    · exact .inr (.inr ⟨rfl, resume⟩)
    · exact .inl rfl
  · exact .inl rfl

/-- What a withdrawal leaves staged is what a TRIPPED lane may hold (R19). -/
theorem Entry.trippedFit_withdrawnBy (w : Status) (e : Entry) : (e.withdrawnBy w).trippedFit := by
  rw [Entry.withdrawnBy]
  split
  · next gone => exact gone.elim .inl fun marked => .inr (.inl marked)
  · split
    · next reads => exact .inr (.inl ⟨reads.1, rfl⟩)
    · exact .inl rfl

theorem LaneState.drained_withdrawnBy (w : Status) (l : LaneId) (now : Tick) (x : LaneState) :
    (x.withdrawnBy w l now).drained := by
  refine ⟨rfl, fun a ha => ?_, fun e he => ?_⟩
  · obtain ⟨b, -, rfl⟩ := Option.map_eq_some_iff.1 ha
    split
    · next st t context => exact ⟨st, t, context⟩
    · exact ⟨w, now, rfl⟩
  · obtain ⟨b, -, rfl⟩ := List.mem_map.1 he
    exact b.trippedFit_withdrawnBy w

theorem releasedPin_owner {l k : LaneId} {p : PinEntry}
    (own : (if p.owner = some l then p.release else p).owner = some k) : p.owner = some k ∧ k ≠ l := by
  split at own
  · cases own
  · next other => exact ⟨own, fun eq => other (eq ▸ own)⟩

theorem Move.keeps_trippedIsDrained (move : Move G P s t) (h : TrippedIsDrained s) : TrippedIsDrained t := by
  have working {l : LaneId} {a : Active} {x : LaneState} (active : (s.lane l).active = some a)
      (other : ∀ st t, a.context ≠ .retiring st t) (mode : x.run = (s.lane l).run) : TrippedIsDrained (s.setLane l x) :=
    h.setLane fun tripped => absurd (mode ▸ tripped) (h.not_tripped active other)
  have sameClaims : ∀ c ∈ s.claims, c ∈ s.claims ∨ (s.lane c.lane).run ≠ .tripped := fun _ => .inl
  cases move with
  | aside same =>
    exact h.of_shared same.lanes (fun n l own => .inl (same.pins ▸ own)) fun c hc => .inl (same.claims ▸ hc)
  | notes f noted =>
    refine h.of_shared rfl (fun n l own => .inl ?_) sameClaims
    rw [mapTable_get] at own
    obtain ⟨x, eq⟩ := noted n.val (s.pins.get n)
    rw [eq] at own
    exact own
  | released l =>
    refine h.of_shared rfl (fun n k own => .inl ?_) sameClaims
    rw [releaseLane, mapTable_get] at own
    exact (releasedPin_owner own).1
  | held l =>
    refine h.of_shared rfl (fun n k own => .inl ?_) sameClaims
    rw [holdLane, mapTable_get] at own
    split at own <;> exact own
  | driven l v =>
    refine h.of_shared rfl (fun n k own => .inl ?_) sameClaims
    rw [driveUpdate, mapTable_get] at own
    split at own <;> exact own
  | claimGranted l d e claims =>
    have free : (s.lane l).run ≠ .tripped := by
      rcases claims with ⟨c, waiting, rfl⟩ | claiming
      · exact fun tripped => (h c.lane tripped).2.1 c waiting rfl
      · exact h.not_tripped_of_claiming claiming
    refine h.of_shared rfl (fun n k own => ?_) sameClaims
    rw [grantClaim, mapTable_get] at own
    split at own
    · cases own
      exact .inr free
    · exact .inl (releasedPin_owner own).1
  | claimsLeave cs fewer => exact h.of_shared rfl (fun _ _ => .inl) fun c hc => .inl (fewer c hc)
  | claimWaits c claiming =>
    refine h.of_shared rfl (fun _ _ => .inl) fun x hx => ?_
    rcases List.mem_append.1 hx with before | new
    · exact .inl before
    · exact .inr (List.mem_singleton.1 new ▸ h.not_tripped_of_claiming claiming)
  | groupJoined active claiming joins => exact working active (by simp [claiming]) rfl
  | @blocksGranted r rest e queue oldest fits =>
    refine h.setLane (l := r.lane) fun tripped => absurd tripped fun tripped => ?_
    have staged := (h.drained tripped).2.2 e (List.mem_of_find?_eq_some oldest)
    simp [Entry.trippedFit, state_of_oldestWaiting oldest] at staged
  | loadIssued l op =>
    exact h.setLane fun tripped => ⟨tripped, fun ⟨shadow, active, staged⟩ =>
      ⟨shadow, active, forall_mem_startOldestRead Entry.trippedFit_of_unread staged⟩⟩
  | @loadAccepted l k e staged loading unmarked =>
    refine h.setLane fun tripped => absurd tripped fun tripped => ?_
    have fit := (h.drained tripped).2.2 e (mem_of_entryAt staged)
    simp [Entry.trippedFit, loading, unmarked] at fit
  | loadFailed st staged loading =>
    exact h.setLane fun tripped => ⟨tripped, fun ⟨shadow, active, fits⟩ => ⟨shadow, active, fun x hx =>
      (List.mem_or_eq_of_mem_set hx).elim (fits x) fun eq => .inl (eq ▸ rfl)⟩⟩
  | restarted m =>
    intro l
    rw [startLanes_lane]
    intro tripped
    dsimp only at tripped
    split at tripped
    · cases tripped
    · exact h l tripped
  | recordStaged r consumer live other =>
    exact h.setLane fun tripped => ⟨tripped, fun ⟨shadow, active, fits⟩ => ⟨shadow, active,
      List.forall_mem_append.2 ⟨fits, by simpa using treatRecord_trippedFit tripped r⟩⟩⟩
  | fetchFailed live => exact h.setLane fun tripped => by cases tripped
  | shadowDeposited r consumer live running valid =>
    exact h.setLane fun tripped => absurd (running.symm.trans tripped) nofun
  | taken skip mode empty head plain done resumed =>
    refine h.setLane fun tripped => ⟨?_, fun ⟨shadow, active, fits⟩ => ⟨shadow, fun b eq => ?_, fun x hx => ?_⟩⟩
    · exact resumed.elim (fun same => same ▸ tripped) And.left
    · cases eq
      exact done.1
    · exact fits x (head ▸ List.mem_cons_of_mem _ hx)
  | burstTaken skip empty head ready burst =>
    refine h.setLane fun tripped => absurd tripped fun tripped => ?_
    have fit := (h.drained tripped).2.2 _ (head ▸ List.mem_cons_self ..)
    simp [Entry.trippedFit, ready, burst, kindBurst, kindResume] at fit
  | markTaken skip empty head ready mark =>
    refine h.setLane fun tripped => absurd tripped fun tripped => ?_
    have fit := (h.drained tripped).2.2 _ (head ▸ List.mem_cons_self ..)
    simp [Entry.trippedFit, ready, mark, kindMark, kindResume] at fit
  | skipTaken empty done =>
    refine h.setLane fun tripped => ⟨tripped, fun ⟨shadow, active, fits⟩ => ⟨shadow, fun b eq => ?_, fits⟩⟩
    cases eq
    exact done.1
  | retired a st active blocks leaves =>
    refine h.setLane fun tripped => ⟨tripped, fun ⟨shadow, active, fits⟩ => ⟨shadow, fun b eq => ?_, fits⟩⟩
    cases eq
    exact ⟨_, _, rfl⟩
  | startWaits active claiming => exact working active (by simp [claiming]) rfl
  | boundary a e j v active same plays leaves =>
    refine working active (fun st t context => ?_) rfl
    rcases plays with ⟨playing, -⟩ | ⟨waiting | ⟨-, t, late, waiting⟩, -⟩
    · simp [playing] at context
    · simp [waiting] at context
    · simp [waiting] at context
  | engineMoved e' stats active playing fits => exact working active (by simp [playing]) rfl
  | contextEmptied skip active retiring =>
    exact h.setLane fun tripped => ⟨tripped, fun ⟨shadow, _, fits⟩ => ⟨shadow, (fun _ eq => by cases eq), fits⟩⟩
  | shadowResolved l st => exact h.setLane fun tripped => ⟨tripped, fun ⟨_, active, fits⟩ => ⟨rfl, active, fits⟩⟩
  | withdrawn w after l how =>
    have drained : (after ((s.lane l).withdrawnBy w l s.timebase)).drained := by
      have gone := (s.lane l).drained_withdrawnBy w l s.timebase
      rcases how with rfl | rfl <;> exact gone
    have lane (k : LaneId) := setTable_get s.lanes l k (after ((s.lane l).withdrawnBy w l s.timebase))
    intro k tripped
    change ((setTable s.lanes l _).get k).run = .tripped at tripped
    change _ ∧ _ ∧ ((setTable s.lanes l _).get k).drained
    rw [lane] at tripped ⊢
    by_cases own : l = k
    · subst own
      rw [if_pos rfl]
      refine ⟨forall_mem_toList_iff.2 fun n mine => ?_, fun c hc => by simpa using (List.mem_filter.1 hc).2, drained⟩
      rw [mapTable_get] at mine
      exact (releasedPin_owner mine).2 rfl
    · rw [if_neg own] at tripped ⊢
      obtain ⟨pins, waiting, work⟩ := h k tripped
      refine ⟨forall_mem_toList_iff.2 fun n mine => ?_, fun c hc => waiting c (List.mem_of_mem_filter hc), work⟩
      rw [mapTable_get] at mine
      exact forall_mem_toList_iff.1 pins n (releasedPin_owner mine).1
  | ringMoved | fetchIssued | fetchDropped | retuneRefused | outboxTaken =>
    exact h.setLane fun tripped => ⟨tripped, id⟩
  | dropped =>
    intro l
    rw [State.lane, dropWork, mapTable_get]
    exact fun tripped => by cases tripped
  | reset =>
    intro l
    rw [State.lane, resetPart, State.reset, replicate_get]
    exact fun tripped => by cases tripped
  | entered d entries =>
    intro l
    rw [State.lane, enterOn, enterTrips, enterQualifier, loadSetup, mapTable_get]
    exact fun tripped => by cases tripped
  | _ => exact h

/-- Settles O56. -/
theorem stepKeepsTrippedLanesDrained : Obligations.StepKeepsTrippedLanesDrained :=
  fun _ _ => step_keeps Move.keeps_trippedIsDrained

/-! ### Fit bursts -/

/-- A lane whose bursts are fit and whose entries hold blocks only as they may. -/
def LaneState.fit (x : LaneState) : Prop := x.burstsFit ∧ ∀ e ∈ x.staging, e.blocksFit

/-- What R147 says of a valid BURST's pace. -/
theorem pace_of_burstValid {r : Bytes 64} (valid : burstValid r = true) :
    (burstOf r).paceFraction.toNat ≤ 31 ∧ (burstOf r).strobeOffset.toNat < (burstOf r).paceInteger.toNat := by
  obtain ⟨-, -, -, -, -, -, -, -, -, -, -, -, -, fraction, strobe, -⟩ := (burstValid_iff r).1 valid
  exact ⟨fraction, strobe⟩

theorem Entry.burstFit_of_unread {e e' : Entry} (same : e'.unread = e.unread) (h : e.burstFit) : e'.burstFit := by
  simp only [Entry.unread, Entry.mk.injEq] at same
  obtain ⟨kind, record, state, -, blocks, -⟩ := same
  simpa only [Entry.burstFit, kind, record, state, blocks] using h

theorem Entry.burstFit_of_failed {e : Entry} (failed : e.state = .failed) : e.burstFit := fun h => absurd failed h

theorem Entry.burstFit_grant {e : Entry} (waits : e.state = .waitBlocks) (h : e.burstFit) {bs : List Nat}
    (enough : bs.length = (burstOf e.record).blockNeed) : (e.grant bs).burstFit := fun _ burst =>
  ⟨(h (by simp [waits]) burst).1, fun _ => enough⟩

theorem Entry.burstFit_accept {e : Entry} (loading : e.state = .loading) (h : e.burstFit) : e.accept.burstFit :=
  fun _ burst => by
    obtain ⟨valid, blocks⟩ := h (by simp [loading]) burst
    exact ⟨valid, fun _ => blocks (by simp [loading])⟩

theorem Entry.burstFit_treatRecord (x : RunState) (r : Bytes 64) : (treatRecord x r).burstFit := by
  have resume : kindResume ≠ kindBurst := by decide
  simp only [treatRecord]
  split
  · split
    · next valid =>
      split
      · next burst => exact fun _ _ => ⟨show burstValid r = true from (recordValid_of_kind r).1 burst ▸ valid, fun h => absurd rfl h⟩
      · next other => exact fun _ burst => absurd burst other
    · exact Entry.burstFit_of_failed rfl
  · split
    · next kind =>
      split
      · exact fun _ burst => absurd (kind.symm.trans burst) resume
      · exact Entry.burstFit_of_failed rfl
    · exact Entry.burstFit_of_failed rfl

theorem Entry.burstFit_withdrawnBy (w : Status) {e : Entry} (h : e.burstFit) : (e.withdrawnBy w).burstFit := by
  rw [Entry.withdrawnBy]
  split
  · exact h
  · split
    · exact h
    · exact Entry.burstFit_of_failed rfl

/-! #### The oldest entry that waits for blocks -/

theorem oldestWaiting_cons_of_other {e : Entry} (other : e.state ≠ .waitBlocks) (q : List Entry) :
    oldestWaiting (e :: q) = oldestWaiting q := by simp [oldestWaiting, other]

theorem oldestWaiting_replaced {e e' : Entry} (other : e.state ≠ .waitBlocks) (other' : e'.state ≠ .waitBlocks)
    (older younger : List Entry) :
    oldestWaiting (older ++ e' :: younger) = oldestWaiting (older ++ e :: younger) := by
  simp [oldestWaiting, List.find?_append, other, other']

theorem oldestWaiting_startOldestRead (op : OpId) (q : List Entry) :
    oldestWaiting (startOldestRead op q).2 = oldestWaiting q := by
  induction q with
  | nil => rfl
  | cons e q ih =>
    simp only [startOldestRead]
    split
    · next wants =>
      have loading : e.state = .loading := by
        simp only [Entry.wantsRead, Bool.and_eq_true, beq_iff_eq] at wants
        exact wants.1.1.1
      have other : e.state ≠ .waitBlocks := by simp [loading]
      rw [oldestWaiting_cons_of_other other, oldestWaiting_cons_of_other (e := e.startRead op) other]
    · simp only [oldestWaiting, List.find?_cons] at ih ⊢
      rw [ih]

/-! #### Requests (R7, R28) -/

/-- Requests that stay, of lanes whose oldest waiting entry stays. -/
theorem RequestsFit.of_sublist (h : RequestsFit s) (queue : t.alloc.queue.Sublist s.alloc.queue)
    (waits : ∀ r ∈ t.alloc.queue, ∀ e, oldestWaiting (s.lane r.lane).staging = some e →
      oldestWaiting (t.lane r.lane).staging = some e) : RequestsFit t := by
  refine ⟨h.1.sublist (queue.map AllocRequest.lane), fun r hr => ?_⟩
  obtain ⟨e, oldest, need⟩ := h.2 r (queue.subset hr)
  exact ⟨e, waits r hr e oldest, need⟩

theorem BurstsFit.setLane (h : BurstsFit s) {l : LaneId} {x : LaneState} (fit : x.fit)
    (waits : ∀ e, oldestWaiting (s.lane l).staging = some e → oldestWaiting x.staging = some e) :
    BurstsFit (s.setLane l x) := by
  refine ⟨fun k => ?_, h.2.of_sublist (List.Sublist.refl _) fun r _ => ?_⟩
  · rw [State.lane_setLane]
    split
    · exact fit
    · exact h.1 k
  · rw [State.lane_setLane]
    split
    · next own => exact own ▸ waits
    · exact fun _ => id

/-- Of a lane only the active entry has changed. -/
theorem BurstsFit.setActive (h : BurstsFit s) {l : LaneId} {a : Active} (fit : a.fit) :
    BurstsFit (s.setActive l (some a)) := by
  obtain ⟨⟨staged, -, shadow⟩, blocks⟩ := h.1 l
  refine h.setLane ⟨⟨staged, fun b eq => ?_, shadow⟩, blocks⟩ fun _ => id
  cases eq
  exact fit

/-- The active entry's fitness, read by its context. -/
theorem Active.fit_of_context {a : Active} (h : a.fit) {c : Context} (context : a.context = c)
    (waits : c = .claiming ∨ c = .groupWait ∨ a.kind = kindBurst ∧ ∃ t late, c = .timeWait t late) :
    a.kind = kindBurst ∧ burstValid a.record = true ∧ a.blocks.length = (burstOf a.record).blockNeed := by
  simp only [Active.fit, context] at h
  rcases waits with rfl | rfl | ⟨burst, t, late, rfl⟩
  · exact h
  · exact h
  · exact ⟨burst, h burst⟩

theorem Active.fit_of_playing {a : Active} (h : a.fit) {e : Engine} (playing : a.context = .playing e) :
    a.kind = kindBurst ∧ burstValid a.record = true ∧ a.blocks.length = (burstOf a.record).blockNeed
      ∧ e.fit (burstOf a.record) := by
  simpa only [Active.fit, playing] using h

/-- The boundary of a play of the sequence, entered with a fit pace, leaves the engine fit (R82, R104, R108). -/
theorem Engine.fit_boundary {b : Burst} {shadow : Option Shadow} {e : Engine} {j : Nat} (v : Vec) (now : Tick)
    (play : 1 ≤ j ∧ j ≤ b.sequenceLength) (accumulator : e.accumulator ≤ 31)
    (strobe : b.strobeOffset.toNat < e.paceInteger.toNat) (fraction : e.paceFraction.toNat ≤ 31)
    (pending : ∀ sh, shadow = some sh → 2 ≤ sh.paceInteger.toNat ∧ sh.paceFraction.toNat ≤ 31) :
    ((boundaryEngine b shadow e j v).startPeriod now).fit b := by
  have plain := Engine.fit_startPeriod (e := { e with play := j, period := 1, gateResolved := false, vector := v }) now
    play le_rfl accumulator strobe fraction
  simp only [boundaryEngine]
  split
  · simp only [retuneEngine]
    split
    · exact plain
    · next sh =>
      split
      · next exceeds => exact Engine.fit_startPeriod now play le_rfl (Nat.zero_le 31) exceeds (pending sh rfl).2
      · exact plain
  · exact plain

theorem startWait_timeWait (b : Burst) (now : Tick) : ∃ t late, startWait b now = .timeWait t late := by
  rw [startWait]
  split
  · split <;> exact ⟨_, _, rfl⟩
  · exact ⟨_, _, rfl⟩

theorem LaneState.fit_of_empty {x : LaneState} (staging : x.staging = []) (active : x.active = none)
    (shadow : x.shadow = none) : x.fit := by
  simp [LaneState.fit, LaneState.burstsFit, staging, active, shadow]

theorem burstsFit_of_empty (queue : s.alloc.queue = [])
    (empty : ∀ l, (s.lane l).staging = [] ∧ (s.lane l).active = none ∧ (s.lane l).shadow = none) : BurstsFit s :=
  ⟨fun l => LaneState.fit_of_empty (empty l).1 (empty l).2.1 (empty l).2.2, by simp [RequestsFit, queue]⟩

theorem LaneState.fit_withdrawnBy (w : Status) (l : LaneId) (now : Tick) {x : LaneState} (h : x.fit) :
    (x.withdrawnBy w l now).fit := by
  obtain ⟨⟨staged, active, -⟩, blocks⟩ := h
  refine ⟨⟨fun e he => ?_, fun a ha => ?_, fun _ eq => by cases eq⟩, fun e he => ?_⟩
  · obtain ⟨b, mem, rfl⟩ := List.mem_map.1 he
    exact Entry.burstFit_withdrawnBy w (staged b mem)
  · obtain ⟨b, mem, rfl⟩ := Option.map_eq_some_iff.1 ha
    split
    · exact active b mem
    · trivial
  · obtain ⟨b, mem, rfl⟩ := List.mem_map.1 he
    exact (b.blocks_withdrawnBy w).2 (blocks b mem)

theorem Move.keeps_burstsFit (move : Move G P s t) (h : BurstsFit s) : BurstsFit t := by
  have sameWork {l : LaneId} {x : LaneState} (staging : x.staging = (s.lane l).staging)
      (active : ∀ a, x.active = some a → a.fit) (shadow : x.shadow = (s.lane l).shadow ∨ x.shadow = none) :
      BurstsFit (s.setLane l x) := by
    obtain ⟨⟨staged, -, pending⟩, blocks⟩ := h.1 l
    refine h.setLane ⟨⟨staging ▸ staged, active, fun sh eq => ?_⟩, staging ▸ blocks⟩ (by rw [staging]; exact fun _ => id)
    exact shadow.elim (fun same => pending sh (same ▸ eq)) fun none => by rw [none] at eq; cases eq
  have active {l : LaneId} {a : Active} (at_ : (s.lane l).active = some a) : a.fit := (h.1 l).1.2.1 a at_
  have appended {l : LaneId} {e : Entry} {x : LaneState} (staging : x.staging = (s.lane l).staging ++ [e])
      (same : x.active = (s.lane l).active ∧ x.shadow = (s.lane l).shadow) (fit : e.burstFit) (blocks : e.blocksFit) :
      BurstsFit (s.setLane l x) := by
    obtain ⟨⟨staged, act, pending⟩, fits⟩ := h.1 l
    refine h.setLane ⟨⟨?_, same.1 ▸ act, same.2 ▸ pending⟩, ?_⟩ fun e₀ oldest => ?_
    · rw [staging]
      exact List.forall_mem_append.2 ⟨staged, by simpa using fit⟩
    · rw [staging]
      exact List.forall_mem_append.2 ⟨fits, by simpa using blocks⟩
    · rw [oldestWaiting] at oldest
      rw [staging, oldestWaiting, List.find?_append, oldest]
      rfl
  have headTaken {l : LaneId} {e : Entry} {q : List Entry} {a : Active} {x : LaneState}
      (head : (s.lane l).staging = e :: q) (other : e.state ≠ .waitBlocks) (staging : x.staging = q)
      (act : x.active = some a) (shadow : x.shadow = (s.lane l).shadow) (fit : a.fit) : BurstsFit (s.setLane l x) := by
    obtain ⟨⟨staged, -, pending⟩, fits⟩ := h.1 l
    rw [head, List.forall_mem_cons] at staged fits
    refine h.setLane ⟨⟨staging ▸ staged.2, fun b eq => ?_, shadow ▸ pending⟩, staging ▸ fits.2⟩ ?_
    · rw [act] at eq
      cases eq
      exact fit
    · rw [head, staging, oldestWaiting_cons_of_other other]
      exact fun _ => id
  have replaced {l : LaneId} {k : Nat} {e e' : Entry} (staged : entryAt l k s = some e) (loading : e.state = .loading)
      (other : e'.state ≠ .waitBlocks) (fit : e.burstFit → e'.burstFit) (blocks : e.blocksFit → e'.blocksFit) :
      BurstsFit (setEntry l k e' s) := by
    obtain ⟨older, younger, before, after⟩ := exists_split_set staged e'
    obtain ⟨⟨bursts, act, pending⟩, fits⟩ := h.1 l
    simp only [setEntry, State.setStaging_eq, after]
    rw [before] at bursts fits
    simp only [List.forall_mem_append, List.forall_mem_cons] at bursts fits
    refine h.setLane ⟨⟨?_, act, pending⟩, ?_⟩ ?_
    · simp only [List.forall_mem_append, List.forall_mem_cons]
      exact ⟨bursts.1, fit bursts.2.1, bursts.2.2⟩
    · simp only [List.forall_mem_append, List.forall_mem_cons]
      exact ⟨fits.1, blocks fits.2.1, fits.2.2⟩
    · rw [before, oldestWaiting_replaced (e := e) (by simp [loading]) other]
      exact fun _ => id
  cases move with
  | aside same =>
    simpa only [BurstsFit, RequestsFit, State.lane, same.lanes, same.alloc] using h
  | groupJoined at_ claiming joins =>
    have fits := Active.fit_of_context (active at_) claiming (.inl rfl)
    exact h.setActive fits
  | requestDropped queue =>
    exact ⟨h.1, h.2.of_sublist (queue ▸ List.sublist_cons_self ..) fun _ _ _ => id⟩
  | requestPlaced l =>
    refine ⟨h.1, ?_⟩
    obtain ⟨distinct, needs⟩ := h.2
    simp only [placedRequest, RequestsFit]
    split
    · simpa using ⟨distinct, needs⟩
    · next absent =>
      split
      · simpa using ⟨distinct, needs⟩
      · next e oldest =>
        simp only [List.map_append, List.map_cons, List.map_nil, List.mem_append, List.mem_singleton]
        refine ⟨List.Nodup.append distinct (List.nodup_singleton _) ?_, ?_⟩
        · simpa using absent
        · rintro r (before | rfl)
          · exact needs r before
          · exact ⟨e, oldest, rfl⟩
  | @blocksGranted r rest e queue oldest fits =>
    obtain ⟨distinct, needs⟩ := h.2
    obtain ⟨e', oldest', need⟩ := needs r (queue ▸ List.mem_cons_self ..)
    rw [oldest] at oldest'
    cases oldest'
    obtain ⟨⟨staged, act, pending⟩, blocks⟩ := h.1 r.lane
    have lane (k : LaneId) := movedBlocks_lane r rest s k
    have enough : (s.alloc.free.take r.need).length = (burstOf e.record).blockNeed := by
      rw [List.length_take, Nat.min_eq_left fits, need]
    refine ⟨fun k => ?_, h.2.of_sublist (t := movedBlocks r rest s) (queue ▸ List.sublist_cons_self ..) fun q hq => ?_⟩
    · rw [lane]
      split
      · refine ⟨⟨forall_mem_grantOldest (fun x first _ fit => ?_) staged, act, pending⟩,
          forall_mem_grantOldest (fun x first _ fit => ?_) blocks⟩
        · rw [oldest] at first
          cases first
          exact Entry.burstFit_grant (state_of_oldestWaiting oldest) fit enough
        · exact Entry.blocksFit_grant (state_of_oldestWaiting first) fit _
      · exact h.1 k
    · have other : q.lane ≠ r.lane := fun same => by
        rw [queue, List.map_cons, List.nodup_cons] at distinct
        exact distinct.1 (same ▸ List.mem_map_of_mem hq)
      rw [lane, if_neg other]
      exact fun _ => id
  | loadIssued l op =>
    obtain ⟨⟨staged, act, pending⟩, blocks⟩ := h.1 l
    refine h.setLane ⟨⟨forall_mem_startOldestRead Entry.burstFit_of_unread staged, act, pending⟩,
      forall_mem_startOldestRead Entry.blocksFit_of_unread blocks⟩ ?_
    dsimp only
    rw [oldestWaiting_startOldestRead]
    exact fun _ => id
  | @loadAccepted l k e staged loading unmarked =>
    refine replaced staged loading ?_ (Entry.burstFit_accept loading) (Entry.blocksFit_accept loading)
    simp only [Entry.accept]
    split <;> simp
  | @loadFailed l k e st staged loading =>
    exact replaced staged loading (e' := e.fail st) (by simp [Entry.fail]) (fun _ => Entry.burstFit_of_failed rfl)
      fun _ => Entry.blocksFit_fail st e
  | restarted m =>
    have lane := startLanes_lane m s
    refine ⟨fun l => lane l ▸ h.1 l, h.2.of_sublist (List.Sublist.refl _) fun r _ => ?_⟩
    rw [lane]
    exact fun _ => id
  | recordStaged r consumer live other =>
    exact appended rfl ⟨rfl, rfl⟩ (Entry.burstFit_treatRecord _ r) (Entry.blocksFit_treatRecord _ r)
  | fetchFailed live =>
    exact appended rfl ⟨rfl, rfl⟩ (Entry.burstFit_of_failed rfl) (Entry.blocksFit_fail .fetchFault fetchFaultEntry)
  | @shadowDeposited l op r consumer live running valid =>
    obtain ⟨⟨staged, act, -⟩, blocks⟩ := h.1 l
    obtain ⟨integer, fraction, -⟩ := (retuneValid_iff r).1 valid
    refine h.setLane ⟨⟨staged, act, fun sh eq => ?_⟩, blocks⟩ fun _ => id
    cases eq
    exact ⟨integer, fraction⟩
  | @taken l e q a skip mode empty head plain done resumed =>
    obtain ⟨⟨st, now, context⟩, -⟩ := done
    refine headTaken head ?_ rfl rfl rfl ?_
    · rcases plain with failed | ⟨ready, -⟩
      · simp [failed]
      · simp [ready]
    · simp only [Active.fit, context]
  | @burstTaken l e q skip empty head ready burst =>
    obtain ⟨valid, blocks⟩ := (h.1 l).1.1 e (head ▸ List.mem_cons_self ..) (by simp [ready]) burst
    exact headTaken head (by simp [ready]) rfl rfl rfl ⟨burst, valid, blocks (by simp [ready])⟩
  | markTaken skip empty head ready mark =>
    refine headTaken head (by simp [ready]) rfl rfl rfl fun burst => ?_
    exact absurd (mark.symm.trans burst) (by decide)
  | skipTaken empty done =>
    obtain ⟨⟨st, now, context⟩, -⟩ := done
    exact h.setActive (by simp only [Active.fit, context])
  | retired a st at_ blocks leaves => exact h.setActive (a := a.retire st s.timebase) trivial
  | @startWaits l a at_ claiming =>
    obtain ⟨t, late, starts⟩ := startWait_timeWait (burstOf a.record) s.timebase
    rw [starts, setContext]
    exact h.setActive fun _ => (Active.fit_of_context (active at_) claiming (.inl rfl)).2
  | @boundary l a₀ a e j v at_ same plays leaves =>
    obtain ⟨kind, record, blocks⟩ := same
    have pending := (h.1 l).1.2.2
    have fit : a₀.kind = kindBurst ∧ burstValid a₀.record = true
        ∧ a₀.blocks.length = (burstOf a₀.record).blockNeed
        ∧ ((boundaryEngine (burstOf a₀.record) (s.lane l).shadow e j v).startPeriod s.timebase).fit
            (burstOf a₀.record) := by
      rcases plays with ⟨playing, more, rfl⟩ | ⟨waits, rfl, v₀, rfl⟩
      · obtain ⟨burst, valid, held, -, -, -, accumulator, strobe, fraction, -⟩ := Active.fit_of_playing (active at_) playing
        exact ⟨burst, valid, held, Engine.fit_boundary v _ ⟨Nat.le_add_left 1 _, more⟩ accumulator strobe fraction pending⟩
      · obtain ⟨burst, valid, held⟩ := Active.fit_of_context (active at_) rfl (.inr waits)
        obtain ⟨fraction, strobe⟩ := pace_of_burstValid valid
        have first := (shape_of_burstValid valid).1.trans (Burst.vectorCount_le_sequenceLength _)
        exact ⟨burst, valid, held, Engine.fit_boundary v _ ⟨le_rfl, first⟩ (Nat.zero_le 31) strobe fraction pending⟩
    refine h.setActive ?_
    simpa only [Active.fit, Active.atBoundary, kind, record, blocks] using fit
  | engineMoved e' stats at_ playing fits =>
    obtain ⟨burst, valid, held, fit⟩ := Active.fit_of_playing (active at_) playing
    exact h.setActive ⟨burst, valid, held, fits _ fit⟩
  | contextEmptied skip at_ retiring => exact sameWork rfl (fun _ eq => by cases eq) (.inl rfl)
  | withdrawn w after l how =>
    have fit : (after ((s.lane l).withdrawnBy w l s.timebase)).fit := by
      have gone := LaneState.fit_withdrawnBy w l s.timebase (h.1 l)
      rcases how with rfl | rfl <;> exact gone
    have lane (k : LaneId) := setTable_get s.lanes l k (after ((s.lane l).withdrawnBy w l s.timebase))
    refine ⟨fun k => ?_, h.2.of_sublist List.filter_sublist fun r hr => ?_⟩
    · change LaneState.fit ((setTable s.lanes l _).get k)
      rw [lane]
      split
      · exact fit
      · exact h.1 k
    · have other : l ≠ r.lane := fun same => by simp [same] at hr
      change ∀ e, _ → oldestWaiting ((setTable s.lanes l _).get r.lane).staging = some e
      rw [lane, if_neg other]
      exact fun _ => id
  | shadowResolved l st => exact sameWork rfl (fun a => (h.1 l).1.2.1 a) (.inr rfl)
  | ringMoved | fetchIssued | fetchDropped | retuneRefused | outboxTaken => exact sameWork rfl (fun _ => active) (.inl rfl)
  | dropped =>
    refine burstsFit_of_empty rfl fun l => ?_
    rw [State.lane, dropWork, mapTable_get]
    exact ⟨rfl, rfl, rfl⟩
  | reset =>
    refine burstsFit_of_empty rfl fun l => ?_
    rw [State.lane, resetPart, State.reset, replicate_get]
    exact ⟨rfl, rfl, rfl⟩
  | entered d entries =>
    refine burstsFit_of_empty rfl fun l => ?_
    rw [State.lane, enterOn, enterTrips, enterQualifier, loadSetup, mapTable_get]
    exact ⟨rfl, rfl, rfl⟩
  | _ => exact h

/-- Settles O57. -/
theorem stepKeepsBurstsFit : Obligations.StepKeepsBurstsFit := fun _ _ => step_keeps Move.keeps_burstsFit

/-! ### No command stops (R24, R39) -/

/-- Every play of a fit burst has a store position. -/
theorem vectorOfPlay_isSome {a : Active} {j : Nat} (s : State) (valid : burstValid a.record = true)
    (blocks : a.blocks.length = (burstOf a.record).blockNeed) (first : 1 ≤ j)
    (last : j ≤ (burstOf a.record).sequenceLength) : (vectorOfPlay a j s).isSome = true := by
  have inside := Burst.playIndex_lt (shape_of_burstValid valid).2.2 first last
  have held : (burstOf a.record).playIndex j / 16 < a.blocks.length := by
    rw [blocks, Burst.blockNeed]
    omega
  simp [vectorOfPlay, vectorOf, blockOf, held]

theorem firstVector_isSome {a : Active} (s : State) (valid : burstValid a.record = true)
    (blocks : a.blocks.length = (burstOf a.record).blockNeed) : ∃ v, vectorOfPlay a 1 s = some v :=
  Option.isSome_iff_exists.1 (vectorOfPlay_isSome s valid blocks le_rfl
    ((shape_of_burstValid valid).1.trans (Burst.vectorCount_le_sequenceLength _)))

theorem runTimed_completes (e : TimedEvent) (h : BurstsFit s) : ∃ t, runTimed e s = .next t := by
  have fit {l : LaneId} {a : Active} (active : (s.lane l).active = some a) : a.fit := (h.1 l).1.2.1 a active
  cases e with
  | claimTimeout l =>
    simp only [runTimed, execClaimTimeout]
    split <;> exact ⟨_, rfl⟩
  | groupDeadline g =>
    simp only [runTimed, execGroupDeadline]
    split <;> exact ⟨_, rfl⟩
  | groupStartTick g =>
    have playable (l : LaneId) : memberPlayable s l = true := by
      simp only [memberPlayable]
      split
      · rfl
      · next a waits =>
        obtain ⟨active, context⟩ := waitingMember_eq_some waits
        obtain ⟨-, valid, blocks⟩ := Active.fit_of_context (fit active) context (.inr (.inl rfl))
        exact Option.isSome_iff_exists.2 (firstVector_isSome s valid blocks)
    simp only [runTimed, execGroupStartTick, List.all_eq_true.2 fun l _ => playable l, if_true]
    split <;> exact ⟨_, rfl⟩
  | markDue l =>
    simp only [runTimed, execMarkDue]
    split <;> exact ⟨_, rfl⟩
  | burstStart l =>
    simp only [runTimed, execBurstStart]
    split
    · exact ⟨_, rfl⟩
    · next r ends =>
      obtain ⟨active, burst, context⟩ := waitEnds_eq_some ends
      obtain ⟨-, valid, blocks⟩ := Active.fit_of_context (fit active) context (.inr (.inr ⟨burst, _, _, rfl⟩))
      obtain ⟨v, vector⟩ := firstVector_isSome s valid blocks
      rw [vector]
      exact ⟨_, rfl⟩
  | strobe l =>
    simp only [runTimed, execStrobe]
    split
    · exact ⟨_, rfl⟩
    · split <;> exact ⟨_, rfl⟩
  | periodEnd l =>
    simp only [runTimed, execPeriodEnd]
    split
    · exact ⟨_, rfl⟩
    · next r plays =>
      obtain ⟨active, playing⟩ := playingBurst_eq_some plays
      obtain ⟨-, valid, blocks, -⟩ := Active.fit_of_playing (fit active) playing
      split
      · split
        · exact ⟨_, rfl⟩
        · exact ⟨_, rfl⟩
        · next follows =>
          obtain ⟨v, vector⟩ := Option.isSome_iff_exists.1
            (vectorOfPlay_isSome s valid blocks (Nat.le_add_left 1 _) (periodFollow_eq_nextPlay follows))
          rw [vector]
          exact ⟨_, rfl⟩
      · exact ⟨_, rfl⟩
  | holdoffExpiry r =>
    simp only [runTimed, execHoldoffExpiry]
    split <;> exact ⟨_, rfl⟩

theorem exec_completes {c : Instr} (wellFormed : c.wellFormed = true) (h : BurstsFit s) : ∃ t, exec c s = .next t := by
  have timed (e : TimedEvent) (command : c = timedCommand e) : ∃ t, exec c s = .next t := by
    rw [command, exec_timedCommand]
    exact runTimed_completes e h
  cases c with
  | unknownCommand code =>
    have known : unknownCode code = true := wellFormed
    exact ⟨_, if_pos known⟩
  | registerWrite reg byteEnables value =>
    have idle : idleWrite reg byteEnables = true := wellFormed
    exact ⟨_, if_pos idle⟩
  | enable | disable | abort | start | acknowledgeCompletion | acknowledgeCapture | rawLevelChange
  | qualifierSample | staleReturn =>
    simp only [exec, execEnable, execDisable, execAbort, execStart, execRawLevelChange, execQualifierSample,
      execAcknowledgeCompletion, execAcknowledgeCapture, execStaleReturn]
    repeat' split
    all_goals exact ⟨_, rfl⟩
  | submit | completionWriteError | captureWriteError =>
    simp only [exec, execSubmit, execCompletionWriteError, execCaptureWriteError]
    repeat' split
    all_goals exact ⟨_, rfl⟩
  | claimTimeout l => exact timed (.claimTimeout l) rfl
  | groupDeadline g => exact timed (.groupDeadline g) rfl
  | groupStartTick g => exact timed (.groupStartTick g) rfl
  | markDue l => exact timed (.markDue l) rfl
  | burstStart l => exact timed (.burstStart l) rfl
  | strobe l => exact timed (.strobe l) rfl
  | periodEnd l => exact timed (.periodEnd l) rfl
  | holdoffExpiry r => exact timed (.holdoffExpiry r) rfl
  | _ => exact ⟨_, rfl⟩

theorem timedCommand_wellFormed (e : TimedEvent) : (timedCommand e).wellFormed = true := by cases e <;> rfl

/-- The part's own events are commands of the table. -/
theorem tickEvents_wellFormed {c : Instr} (own : c ∈ tickEvents s) : c.wellFormed = true := by
  simp only [tickEvents, List.mem_append, List.mem_map] at own
  rcases own with (sample | look) | ⟨e, -, rfl⟩
  · split at sample
    · rw [List.mem_singleton.1 sample]
      rfl
    · cases sample
  · split at look
    · rw [List.mem_singleton.1 look]
      rfl
    · cases look
  · exact timedCommand_wellFormed e

/-- Settles O59: the commands that can stop meet a store position in every fit burst. -/
theorem wellFormedCommandsComplete : Obligations.WellFormedCommandsComplete := by
  refine fun s h => ⟨fun c wellFormed => exec_completes wellFormed h, fun front => ?_⟩
  simp only [step]
  split
  · obtain ⟨n, counted, none | ⟨c, own, chosen⟩⟩ := chooseEvent_cases tickEvents s
    · simp only [idle, ownEvent, none]
      exact ⟨_, rfl⟩
    · simp only [idle, ownEvent, chosen, counted]
      exact exec_completes (tickEvents_wellFormed own) h
  · next c rest queue =>
    exact exec_completes (s := { s with pending := rest }) (front c (by simp [queue])) h

end

end Sys2Proof.Machine
end

section
/-! Events that find nothing to do, and the registers (R98, R165 to R170, R183, R184). -/

namespace Sys2Proof.Machine

/-- Settles O1. -/
theorem stepRunsFrontCommand : Obligations.StepRunsFrontCommand := by
  intro c rest s front
  rw [step, front]

section
variable {s t u : State}

/-! ### Events out of their place -/

theorem finish_nil_of_portQuiet (quiet : PortQuiet s) : finish (s, []) = .next s := by
  rw [finish, settle_nil, hostPort, turns_of_portQuiet quiet]

theorem waitEnds_eq_none {kind : Byte} {l : LaneId}
    (never : ∀ a late, (s.lane l).active = some a → a.kind = kind → a.context ≠ .timeWait s.timebase late) :
    waitEnds kind l s = none :=
  Option.eq_none_iff_forall_ne_some.2 fun r ends => by
    obtain ⟨active, known, context⟩ := waitEnds_eq_some ends
    exact never r.1 r.2 active known context

theorem claimExpires_iff (l : LaneId) (s : State) :
    claimExpires l s = true ↔ ∃ c ∈ s.claims, c.lane = l ∧ c.expiry = s.timebase := by simp [claimExpires]

theorem deadlineDue_iff (g : GroupId) (s : State) :
    deadlineDue g s = true ↔ (s.group g).state = .forming ∧ (s.group g).deadline = s.timebase := by simp [deadlineDue]

theorem groupStartDue_iff (g : GroupId) (s : State) :
    groupStartDue g s = true ↔ (s.group g).state = .committed ∧ (s.group g).startTick = s.timebase := by
  simp [groupStartDue]

theorem strobeDue_iff (s : State) (r : Active × Engine) :
    strobeDue s r = true ↔ r.2.strobed = false
      ∧ r.2.periodStart + (burstOf r.1.record).strobeOffset.setWidth 48 = s.timebase := by simp [strobeDue, strobeTick]

theorem sampleDue_iff (s : State) : sampleDue s = true ↔ s.qualifier.nextSample = s.timebase := by simp [sampleDue]

theorem exec_holdoffExpiry_of_due {r : Ring} (due : ringTimer s r = some s.timebase) :
    exec (.holdoffExpiry r) s = finishState (expireTimer s r) := if_pos due

theorem exec_holdoffExpiry_of_not_due (quiet : PortQuiet s) {r : Ring} (other : ringTimer s r ≠ some s.timebase) :
    exec (.holdoffExpiry r) s = .next s := (if_neg other).trans (finishState_of_portQuiet quiet)

/-- A fetch return for a lane that has no read in flight. -/
theorem fetchReturn_of_none {l : LaneId} (none : (s.lane l).fetch = .none) (reply : ReadReply 64) :
    fetchReturn l reply s = (s, []) := by rw [fetchReturn, none]

theorem discardedReturn_of_not_discarded {l : LaneId} (other : ∀ op, (s.lane l).fetch ≠ .discarded op) :
    discardedReturn l s = s := by
  rw [discardedReturn]
  split
  · next op discarded => exact absurd discarded (other op)
  · rfl

/-- A load return for an entry that has no load read in flight. -/
theorem loadReturn_of_not_reading {l : LaneId} {k : Nat}
    (idle : ∀ e, (s.lane l).staging[k]? = some e → e.state ≠ .loading ∨ e.reading = none) (reply : LoadReturn) :
    loadReturn l k reply s = (s, []) := by
  rw [loadReturn]
  split
  · rfl
  · next e staged =>
    split
    · next op loading reading =>
      rcases idle e staged with other | none
      · exact absurd loading other
      · simp [none] at reading
    · rfl

theorem withdrawnReturn_of_not_marked {l : LaneId} {k : Nat}
    (idle : ∀ e, (s.lane l).staging[k]? = some e → e.state ≠ .loading ∨ e.reading = none ∨ e.status = none) :
    withdrawnReturn l k s = (s, []) := by
  rw [withdrawnReturn]
  split
  · rfl
  · next e staged =>
    split
    · next w op loading marked reading =>
      rcases idle e staged with other | none | unmarked
      · exact absurd loading other
      · simp [none] at reading
      · simp [unmarked] at marked
    · rfl

theorem completionDone_of_not_writing (idle : s.completionRing.writing = none) : completionDone s = (s, []) := by
  rw [completionDone, idle]

theorem captureDone_of_not_writing (idle : s.captureRing.writing = none) : captureDone s = s := by
  rw [captureDone, idle]

theorem setupReturn_of_not_reading (idle : s.window.device ≠ .configuring ∨ s.window.setupRead = none)
    (reply : ReadReply 256) : setupReturn reply s = s := by
  rw [setupReturn]
  split
  · next r configuring reading =>
    rcases idle with other | none
    · exact absurd configuring other
    · simp [none] at reading
  · rfl

/-- Settles O49: each event's own condition fails, and a quiet Host Port then leaves the state as it was. -/
theorem eventsOutOfPlaceChangeNothing : Obligations.EventsOutOfPlaceChangeNothing := by
  intro s quiet
  have same : finishState s = .next s := finishState_of_portQuiet quiet
  have nothing : finish (s, []) = .next s := finish_nil_of_portQuiet quiet
  refine ⟨fun other => ?_, fun l never => ?_, fun g never => ?_, fun g never => ?_, fun l never => ?_,
    fun l never => ?_, fun l never => ?_, fun l never => ?_, exec_holdoffExpiry_of_not_due (r := .completion) quiet,
    exec_holdoffExpiry_of_not_due (r := .capture) quiet, fun idle => ⟨?_, ?_⟩, fun idle => ⟨?_, ?_⟩, fun l none => ⟨fun r => ?_, ?_⟩,
    fun l other => ?_, fun l k idle => ⟨fun d => ?_, ?_, ?_⟩, fun l k unmarked => ?_, fun idle reply => ?_⟩
  · refine (if_neg fun h => ?_).trans same
    obtain ⟨on, due⟩ := h
    exact other.elim (absurd on) (absurd ((sampleDue_iff s).1 due))
  · refine (if_neg fun h => ?_).trans same
    obtain ⟨c, waiting, own, expires⟩ := (claimExpires_iff l s).1 h
    exact never c waiting own expires
  · refine (if_neg fun h => ?_).trans same
    obtain ⟨forming, due⟩ := (deadlineDue_iff g s).1 h
    exact never.elim (absurd forming) (absurd due)
  · refine (if_neg fun h => ?_).trans same
    obtain ⟨committed, due⟩ := (groupStartDue_iff g s).1 h
    exact never.elim (absurd committed) (absurd due)
  · simp only [exec, execMarkDue, waitEnds_eq_none (kind := kindMark) never, same]
  · simp only [exec, execBurstStart, waitEnds_eq_none (kind := kindBurst) never, same]
  · simp only [exec, execStrobe]
    split
    · exact same
    · next r plays =>
      obtain ⟨active, playing⟩ := playingBurst_eq_some plays
      refine (if_neg fun h => ?_).trans same
      obtain ⟨ahead, now⟩ := (strobeDue_iff s r).1 h
      exact (never r.1 r.2 active playing).elim (by simp [ahead]) (absurd now)
  · simp only [exec, execPeriodEnd]
    split
    · exact same
    · next r plays =>
      obtain ⟨active, playing⟩ := playingBurst_eq_some plays
      exact (if_neg (never r.1 r.2 active playing)).trans same
  · simp only [exec, execCompletionWriteDone, completionDone_of_not_writing idle, nothing]
  · simp only [exec, execCompletionWriteError, idle, same]
  · simp only [exec, execCaptureWriteDone, captureDone_of_not_writing idle, same]
  · simp only [exec, execCaptureWriteError, idle, same]
  · simp only [exec, execRecordArrival, fetchReturn_of_none none, nothing]
  · simp only [exec, execFetchBusError, fetchReturn_of_none none, nothing]
  · simp only [exec, execDiscardedFetchReturn, discardedReturn_of_not_discarded other, same]
  · simp only [exec, execLoadReadReturn, loadReturn_of_not_reading idle, nothing]
  · simp only [exec, execLoadFault, loadReturn_of_not_reading idle, nothing]
  · have still : withdrawnReturn l k s = (s, []) :=
      withdrawnReturn_of_not_marked fun e staged => (idle e staged).imp_right .inl
    simp only [exec, execWithdrawnLoadReturn, still, nothing]
  · have still : withdrawnReturn l k s = (s, []) :=
      withdrawnReturn_of_not_marked fun e staged => .inr (.inr (unmarked e staged))
    simp only [exec, execWithdrawnLoadReturn, still, nothing]
  · simp only [exec, execSetupReadReturn, setupReturn_of_not_reading idle, same]

/-! ### Writes to the window (R166, R167, R183, R184) -/

theorem extractLsb'_congr {w : Nat} {x y : BitVec w} {start n : Nat}
    (same : ∀ k, start ≤ k → k < start + n → x.getLsbD k = y.getLsbD k) : x.extractLsb' start n = y.extractLsb' start n := by
  refine BitVec.eq_of_getLsbD_eq fun i hi => ?_
  simp only [BitVec.getLsbD_extractLsb', hi, decide_true, Bool.true_and]
  exact same _ (by omega) (by omega)

theorem controlCommand_wellFormed (code : Byte) (mask : LaneMask) : (controlCommand code mask).wellFormed = true := by
  rw [controlCommand]
  split_ifs with h1 h2 h3 h4 h5
  case neg => exact unknownCode_of_not_command ⟨h1, h2, h3, h4, h5⟩
  all_goals rfl

theorem decodeWrite_wellFormed (reg : Reg) (be : BitVec 4) (w : Word) : (decodeWrite reg be w).wellFormed = true := by
  rw [decodeWrite.eq_def]
  split
  · cases reg with
    | control => exact controlCommand_wellFormed _ _
    | acknowledge =>
      dsimp only [decodeAcknowledge]
      split <;> rfl
    | ident | unused => simp [Instr.wellFormed, idleWrite]
    | _ => rfl
  · next partial_ => simp [Instr.wellFormed, idleWrite, partial_]

/-- A write that changes nothing is a REGISTER_WRITE. -/
theorem decodeWrite_of_idle {reg : Reg} {be : BitVec 4} (idle : be ≠ 0xF ∨ reg = .ident ∨ reg = .unused) (w : Word) :
    decodeWrite reg be w = .registerWrite reg be w := by
  rw [decodeWrite.eq_def]
  split
  · next full =>
    rcases idle with other | rfl | rfl
    · exact absurd full other
    · rfl
    · rfl
  · rfl

/-- Settles O7. -/
theorem ignoredWritesChangeNothing : Obligations.IgnoredWritesChangeNothing := by
  refine ⟨fun reg be w s quiet idle => ⟨decodeWrite_wellFormed reg be w, ?_⟩, fun w v low ring => ?_,
    fun w v s index refused setup => ?_, fun s => ⟨rfl, rfl⟩, decodeWrite_wellFormed⟩
  · have write : idleWrite reg be = true := by simpa [idleWrite, or_assoc] using idle
    rw [decodeWrite_of_idle idle]
    exact (if_pos write).trans (finishState_of_portQuiet quiet)
  · have index : w.extractLsb' 0 12 = v.extractLsb' 0 12 := extractLsb'_congr fun k _ hk => low k (by omega)
    refine ⟨?_, fun lane => ?_, ?_⟩
    · show decodeAcknowledge w = decodeAcknowledge v
      rw [decodeAcknowledge, decodeAcknowledge, ring, index]
    · have lanes : w.extractLsb' 30 2 = v.extractLsb' 30 2 := extractLsb'_congr fun k first last => by
        obtain rfl | rfl : k = 30 ∨ k = 31 := by omega
        · exact lane
        · exact ring
      show decodeSubmit w = decodeSubmit v
      rw [decodeSubmit, decodeSubmit, index, lanes]
    · have code : w.extractLsb' 0 8 = v.extractLsb' 0 8 := extractLsb'_congr fun k _ hk => low k (by omega)
      have mask : w.extractLsb' 8 4 = v.extractLsb' 8 4 := extractLsb'_congr fun k _ hk => low k (by omega)
      rw [decodeWrite_control, decodeWrite_control, code, mask]
  · show execStatusWrite w s = execStatusWrite v s
    rw [execStatusWrite, execStatusWrite, clearSticky, clearSticky, index, refused, setup]

theorem setupReturn_setupAddress (reply : ReadReply 256) (s : State) :
    (setupReturn reply s).window.setupAddress = s.window.setupAddress := by
  rw [setupReturn]
  repeat' split
  all_goals rfl

theorem acknowledgeRing_setupAddress {head : Nat} {r : RingWriter} {i : RingInterrupt}
    {moved : RingWriter → RingInterrupt → State} (same : ∀ x y, (moved x y).window = s.window) :
    (acknowledgeRing head r i moved s).window.setupAddress = s.window.setupAddress := by
  rw [acknowledgeRing]
  split
  · split
    · rfl
    · rw [same]
  · rfl

/-- A command that sets a register, if it sets one, and leaves the setup address. -/
theorem setupAddress_of_finishState (h : finishState u = .next t)
    (same : u.window.setupAddress = s.window.setupAddress) : t.window.setupAddress = s.window.setupAddress := by
  rw [window_of_finishState h, same]

/-- Settles O8. -/
theorem registerWritesTakeEffect : Obligations.RegisterWritesTakeEffect := by
  refine ⟨fun v s quiet => ⟨?_, ?_, ?_⟩, fun c s t h => ?_⟩
  · exact finishState_of_portQuiet (quiet.withWindow rfl)
  · exact finishState_of_portQuiet (quiet.withWindow rfl)
  · exact finishState_of_portQuiet (quiet.withWindow rfl)
  · cases c with
    | reset | powerOn | resetPin =>
      rw [← Host.Outcome.next.inj h]
      rfl
    | setupLoWrite v | setupHiWrite v => rw [window_of_finishState h]
    | statusWrite v => exact setupAddress_of_finishState h rfl
    | setupReadReturn reply => exact setupAddress_of_finishState h (setupReturn_setupAddress reply s)
    | enable | disable | submit | completionWriteError | captureWriteError =>
      simp only [exec, execEnable, execDisable, execSubmit, execCompletionWriteError, execCaptureWriteError] at h
      repeat' split at h
      all_goals exact setupAddress_of_finishState h rfl
    | start m =>
      simp only [exec, execStart] at h
      split at h
      all_goals exact setupAddress_of_finishState h rfl
    | abort m =>
      simp only [exec, execAbort] at h
      split at h
      · rw [window_of_finish h, abortWork_window]
        rfl
      · exact setupAddress_of_finishState h rfl
    | unknownCommand code =>
      simp only [exec, execUnknownCommand] at h
      split at h
      · exact setupAddress_of_finishState h rfl
      · cases h
    | acknowledgeCompletion head =>
      by_cases on : s.window.device = .on
      · rw [exec_acknowledgeCompletion_of_on head on] at h
        exact setupAddress_of_finishState h (acknowledgeRing_setupAddress fun _ _ => rfl)
      · rw [(exec_acknowledge_of_not_on head on).1] at h
        exact setupAddress_of_finishState h rfl
    | acknowledgeCapture head =>
      by_cases on : s.window.device = .on
      · rw [exec_acknowledgeCapture_of_on head on] at h
        exact setupAddress_of_finishState h (acknowledgeRing_setupAddress fun _ _ => rfl)
      · rw [(exec_acknowledge_of_not_on head on).2] at h
        exact setupAddress_of_finishState h rfl
    | _ => rw [exec_window rfl h]

/-- Settles O9. -/
theorem enableIssuesSetupRead : Obligations.EnableIssuesSetupRead := by
  refine ⟨fun s off => exec_enable_of_off off, fun s => portQuiet_of_not_on, fun reply s configuring => ?_⟩
  refine ⟨_, exec_disable_of_not_off (by simp [configuring]), rfl, rfl, rfl, ?_⟩
  obtain ⟨setup, -⟩ := (awaitsNothing_deviceOff (acceptCommand 2 0 s)).repliesDropped
  exact setup reply

/-! ### Interrupts (R164, R165) -/

theorem causesLive_iff (s : State) :
    causesLive s = true ↔ s.window.device = .on ∨ s.window.device = .fault := by simp [causesLive]

theorem RingInterrupt.cause_iff (i : RingInterrupt) (fill : Nat) :
    i.cause fill = true ↔ i.threshold.toNat ≤ fill ∨ (i.expired = true ∧ 1 ≤ fill) := by simp [RingInterrupt.cause]

/-- A requester does not look at the interrupt logic. -/
theorem PortQuiet.withInterrupt (quiet : PortQuiet s) (i : Interrupt) : PortQuiet { s with interrupt := i } := by
  intro r mem
  rw [← quiet r mem]
  cases r <;> rfl

/-- Settles O48. -/
theorem holdoffExpiryRaisesCauses : Obligations.HoldoffExpiryRaisesCauses := by
  refine ⟨fun s quiet => ⟨fun due => ?_, fun due => ?_⟩, fun s => ⟨?_, ?_, ?_, ?_⟩⟩
  · exact (exec_holdoffExpiry_of_due (r := .completion) due).trans
      (finishState_of_portQuiet (quiet.withInterrupt _))
  · exact (exec_holdoffExpiry_of_due (r := .capture) due).trans
      (finishState_of_portQuiet (quiet.withInterrupt _))
  · rw [causeCQ, Bool.and_eq_true, causesLive_iff, RingInterrupt.cause_iff]
    rfl
  · rw [causeKQ, Bool.and_eq_true, causesLive_iff, RingInterrupt.cause_iff]
    rfl
  · simp [causeFault]
  · simp [irqLine, or_assoc]

end

end Sys2Proof.Machine
end

section
/-! What holds outside ON (R1, R162, R167 to R173), what the Host Port leaves of every event (R163), and the state after
reset. -/

namespace Sys2Proof.Machine

section
variable {s t u : State}

/-! ### Empty outside ON -/

/-- What `OffIsEmpty` says of the part outside ON. -/
structure PartEmpty (s : State) : Prop where
  lanes : ∀ l, (s.lane l).empty
  pins : ∀ p ∈ s.pins.toList, p.owner = none
  claims : s.claims = []
  alloc : s.alloc = { free := List.range 256, queue := [] }
  groups : ∀ g, s.group g = Group.idle
  post : s.post = ⟨[], []⟩
  fifo : s.capture.fifo = []
  completion : s.completionRing.writing = none
  capture : s.captureRing.writing = none
  completionTimer : s.interrupt.completion.timer = none
  captureTimer : s.interrupt.capture.timer = none

theorem offIsEmpty_iff : OffIsEmpty s ↔ (s.window.device ≠ .on → PartEmpty s) :=
  ⟨fun h off => by
    obtain ⟨h1, h2, h3, h4, h5, h6, h7, h8, h9, h10, h11⟩ := h off
    exact ⟨h1, h2, h3, h4, h5, h6, h7, h8, h9, h10, h11⟩,
  fun h off => by
    obtain ⟨h1, h2, h3, h4, h5, h6, h7, h8, h9, h10, h11⟩ := h off
    exact ⟨h1, h2, h3, h4, h5, h6, h7, h8, h9, h10, h11⟩⟩

theorem OffIsEmpty.partEmpty (h : OffIsEmpty s) (off : s.window.device ≠ .on) : PartEmpty s := offIsEmpty_iff.1 h off

theorem offIsEmpty_of_on (on : s.window.device = .on) : OffIsEmpty s := fun off => absurd on off

theorem PartEmpty.offIsEmpty (h : PartEmpty s) : OffIsEmpty s := offIsEmpty_iff.2 fun _ => h

theorem partEmpty_dropWork (s : State) : PartEmpty (dropWork s) where
  lanes l := by
    rw [(workDropped_dropWork s).lanes l]
    exact ⟨rfl, rfl, rfl, rfl, rfl, rfl, rfl, rfl⟩
  pins := forall_mem_toList_iff.2 fun n => by
    rw [dropWork, releaseAll, mapTable_get]
    rfl
  claims := rfl
  alloc := rfl
  groups := (workDropped_dropWork s).groups
  post := rfl
  fifo := rfl
  completion := rfl
  capture := rfl
  completionTimer := rfl
  captureTimer := rfl

theorem partEmpty_reset : PartEmpty State.reset where
  lanes l := by
    rw [State.lane, State.reset, replicate_get]
    exact ⟨rfl, rfl, rfl, rfl, rfl, rfl, rfl, rfl⟩
  pins p mem := by
    rw [State.reset, Vector.toList_replicate] at mem
    rw [List.eq_of_mem_replicate mem]
    rfl
  claims := rfl
  alloc := rfl
  groups g := by rw [State.group, State.reset, replicate_get]
  post := rfl
  fifo := rfl
  completion := rfl
  capture := rfl
  completionTimer := rfl
  captureTimer := rfl

/-! ### Events outside ON change no work -/

/-- In an empty part no event of the part's own is due, and no return is awaited but that of a setup read. -/
theorem PartEmpty.exec_of_not_on (h : PartEmpty s) (off : s.window.device ≠ .on) {c : Instr}
    (leaves : leavesRegisters c = true) (next : exec c s = .next t) : PartEmpty t := by
  have quiet := portQuiet_of_not_on off
  have unchanged (same : exec c s = .next s) : PartEmpty t := Host.Outcome.next.inj (same.symm.trans next) ▸ h
  have aside {u : State} (same : exec c s = finishState u) (device : u.window.device ≠ .on) (empty : PartEmpty u) :
      PartEmpty t :=
    Host.Outcome.next.inj ((same.trans (finishState_of_not_on device)).symm.trans next) ▸ empty
  have idleLane (l : LaneId) : (s.lane l).active = none ∧ (s.lane l).fetch = .none ∧ (s.lane l).staging = [] := by
    obtain ⟨-, staging, -, -, active, -, -, fetch⟩ := h.lanes l
    exact ⟨active, fetch, staging⟩
  have noActive {l : LaneId} {a : Active} {Q : Prop} (active : (s.lane l).active = some a) : Q := by
    simp [(idleLane l).1] at active
  have idleGroup (g : GroupId) : (s.group g).state ≠ .forming ∧ (s.group g).state ≠ .committed := by
    simp [h.groups g, Group.idle]
  have noEntry {l : LaneId} {k : Nat} {e : Entry} {Q : Prop} (staged : (s.lane l).staging[k]? = some e) : Q := by
    simp [(idleLane l).2.2] at staged
  obtain ⟨sample, claim, deadline, start, mark, burst, strobe, period, completionHoldoff, captureHoldoff, completion,
    capture, fetch, discarded, load, -, -⟩ := eventsOutOfPlaceChangeNothing s quiet
  cases c with
  | rawLevelChange level hold => exact aside (if_neg off) off { h with }
  | qualifierSample => exact unchanged (sample (.inl off))
  | hostPortTurn => exact unchanged (congrArg _ (turns_of_portQuiet quiet _))
  | recordArrival l r => exact unchanged ((fetch l (idleLane l).2.1).1 r)
  | fetchBusError l => exact unchanged (fetch l (idleLane l).2.1).2
  | discardedFetchReturn l => exact unchanged (discarded l fun op => by simp [(idleLane l).2.1])
  | loadReadReturn l k d => exact unchanged ((load l k fun e => noEntry).1 d)
  | loadFault l k => exact unchanged (load l k fun e => noEntry).2.1
  | withdrawnLoadReturn l k => exact unchanged (load l k fun e => noEntry).2.2
  | staleReturn op =>
    by_cases known : awaited op s = true
    · exact aside (if_pos known) off h
    · exact aside (if_neg known) off { h with }
  | completionWriteDone => exact unchanged (completion h.completion).1
  | captureWriteDone => exact unchanged (capture h.capture).1
  | claimTimeout l => exact unchanged (claim l fun c waiting => by simp [h.claims] at waiting)
  | groupDeadline g => exact unchanged (deadline g (.inl (idleGroup g).1))
  | groupStartTick g => exact unchanged (start g (.inl (idleGroup g).2))
  | markDue l => exact unchanged (mark l fun a late active => noActive active)
  | burstStart l => exact unchanged (burst l fun a late active => noActive active)
  | strobe l => exact unchanged (strobe l fun a e active => noActive active)
  | periodEnd l => exact unchanged (period l fun a e active => noActive active)
  | holdoffExpiry r =>
    cases r with
    | completion => exact unchanged (completionHoldoff (by simp [h.completionTimer]))
    | capture => exact unchanged (captureHoldoff (by simp [h.captureTimer]))
  | registerWrite reg be w =>
    by_cases idle : idleWrite reg be = true
    · exact aside (if_pos idle) off h
    · exact absurd ((if_neg idle).symm.trans next) nofun
  | _ => cases leaves

/-! ### The registers (R167, R168, R170) -/

theorem WindowSound.congr (h : WindowSound s) (same : t.window = s.window) : WindowSound t := by
  rw [WindowSound, same]
  exact h

theorem windowSound_reset : WindowSound State.reset := by
  refine ⟨by decide, by decide, ?_, ?_, nofun, nofun⟩ <;> simp [State.reset, Window.reset]

theorem WindowSound.acceptCommand (h : WindowSound s) (code : Byte) (small : code.toNat ≤ 5) (mask : LaneMask) :
    WindowSound (acceptCommand code mask s) := by
  obtain ⟨-, rest⟩ := h
  refine ⟨?_, rest⟩
  have masked := mask.isLt
  show (controlWord code mask).toNat < 4096
  rw [toNat_controlWord]
  omega

theorem WindowSound.setRefused (h : WindowSound s) : WindowSound (setRefused s) := h

theorem WindowSound.setIndexError (h : WindowSound s) : WindowSound (setIndexError s) := h

theorem WindowSound.clearSticky (h : WindowSound s) (w : Word) :
    WindowSound { s with window := clearSticky w s.window } := by
  obtain ⟨control, code, error, rest⟩ := h
  refine ⟨control, ?_, ?_, rest⟩
  · show (if w.getLsbD 19 then 0 else s.window.setupCode) ≤ 7
    split
    · exact Nat.zero_le 7
    · exact code
  · show (s.window.setupError && !w.getLsbD 19) = true ↔ (if w.getLsbD 19 then 0 else s.window.setupCode) ≠ 0
    cases w.getLsbD 19 <;> simp [error]

/-- A device state that awaits no setup read, with a fault cause exactly in FAULT. -/
theorem WindowSound.moved (h : WindowSound s) {d : DeviceState} {cause : FaultCause} (reads : d ≠ .configuring)
    (on : d = .on → cause = .none) (fault : d = .fault → cause ≠ .none)
    (same : t.window = { s.window with device := d, faultCause := cause, setupRead := none }) : WindowSound t := by
  obtain ⟨control, code, error, -, -, -⟩ := h
  rw [WindowSound, same]
  exact ⟨control, code, error, by simp [reads], on, fault⟩

theorem windowSound_setupFails (h : WindowSound s) {code : Nat} (fails : code ≠ 0) (small : code ≤ 7) :
    WindowSound (setupFails code s) := by
  obtain ⟨control, -⟩ := h
  exact ⟨control, small, by simp [setupFails, fails], by simp [setupFails], nofun, nofun⟩

theorem setupCheck_le (address : Addr) (reply : ReadReply 256) : setupCheck address reply ≤ 7 := by
  unfold setupCheck
  repeat' split
  all_goals decide

/-- A setup read that returns in CONFIGURING: the device is ON, or OFF with a code of R171. -/
theorem setupReturn_cases (reply : ReadReply 256) (s : State) :
    setupReturn reply s = s
      ∨ ∃ r : SetupRead, s.window.device = .configuring ∧ ((∃ d, setupReturn reply s = enterOn d (returnOp r.op s))
        ∨ ∃ code, code ≠ 0 ∧ code ≤ 7 ∧ setupReturn reply s = setupFails code (returnOp r.op s)) := by
  by_cases reads : s.window.device = .configuring ∧ ∃ r, s.window.setupRead = some r
  · obtain ⟨configuring, r, reading⟩ := reads
    refine .inr ⟨r, configuring, ?_⟩
    by_cases passes : setupCheck r.address reply = 0
    · exact .inl (setupReturn_of_passing configuring reading passes)
    · exact .inr ⟨_, passes, setupCheck_le _ _, setupReturn_of_failing configuring reading passes⟩
  · refine .inl (setupReturn_of_not_reading ?_ reply)
    by_contra awaited
    obtain ⟨configuring, reading⟩ := not_or.1 awaited
    exact reads ⟨not_not.1 configuring, Option.ne_none_iff_exists'.1 reading⟩

theorem windowSound_setupReturn (h : WindowSound s) (reply : ReadReply 256) : WindowSound (setupReturn reply s) := by
  rcases setupReturn_cases reply s with same | ⟨r, -, ⟨d, enters⟩ | ⟨code, fails, small, failed⟩⟩
  · rwa [same]
  · rw [enters]
    exact h.moved (d := .on) (cause := .none) nofun (fun _ => rfl) nofun rfl
  · rw [failed]
    exact windowSound_setupFails (s := returnOp r.op s) h fails small

theorem offIsEmpty_setupReturn (h : OffIsEmpty s) (reply : ReadReply 256) : OffIsEmpty (setupReturn reply s) := by
  rcases setupReturn_cases reply s with same | ⟨r, configuring, ⟨d, enters⟩ | ⟨code, -, -, failed⟩⟩
  · rwa [same]
  · rw [enters]
    exact offIsEmpty_of_on rfl
  · have vacant := h.partEmpty (by simp [configuring])
    rw [failed]
    exact PartEmpty.offIsEmpty { vacant with }

/-! ### Every command -/

theorem keeps_of_finishState (h : finishState u = .next t) (empty : OffIsEmpty u) (sound : WindowSound u) :
    OffIsEmpty t ∧ WindowSound t := by
  have same := window_of_finishState h
  refine ⟨offIsEmpty_iff.2 fun off => ?_, sound.congr same⟩
  rw [same] at off
  rw [← Host.Outcome.next.inj ((finishState_of_not_on off).symm.trans h)]
  exact empty.partEmpty off

theorem OffIsEmpty.withWindow (h : OffIsEmpty s) {w : Window} (same : w.device = s.window.device) :
    OffIsEmpty { s with window := w } :=
  offIsEmpty_iff.2 fun off => { h.partEmpty (same ▸ off) with }

theorem acknowledgeRing_window {head : Nat} {r : RingWriter} {i : RingInterrupt}
    {moved : RingWriter → RingInterrupt → State} (same : ∀ x y, (moved x y).window = s.window) :
    (acknowledgeRing head r i moved s).window = s.window
      ∨ (acknowledgeRing head r i moved s).window = { s.window with indexError := true } := by
  rw [acknowledgeRing]
  split
  · split
    · exact .inl rfl
    · exact .inl (same _ _)
  · exact .inr rfl

theorem exec_keeps_offIsEmpty_windowSound {c : Instr} (empty : OffIsEmpty s) (sound : WindowSound s)
    (h : exec c s = .next t) : OffIsEmpty t ∧ WindowSound t := by
  have refused (h : refuseCommand s = .next t) : OffIsEmpty t ∧ WindowSound t :=
    keeps_of_finishState h (empty.withWindow rfl) sound.setRefused
  have reset (h : (.next (resetPart s) : Host.Outcome State Fault Refusal) = .next t) :
      OffIsEmpty t ∧ WindowSound t := by
    rw [← Host.Outcome.next.inj h]
    exact ⟨PartEmpty.offIsEmpty { partEmpty_reset with }, windowSound_reset.congr rfl⟩
  have acknowledged {head : Nat} {r : RingWriter} {i : RingInterrupt} {moved : RingWriter → RingInterrupt → State}
      (same : ∀ x y, (moved x y).window = s.window) (on : s.window.device = .on)
      (h : finishState (acknowledgeRing head r i moved s) = .next t) : OffIsEmpty t ∧ WindowSound t := by
    have window := acknowledgeRing_window (head := head) (r := r) (i := i) same
    refine keeps_of_finishState h (offIsEmpty_of_on ?_) ?_
    · rcases window with eq | eq <;> rw [eq] <;> exact on
    · rcases window with eq | eq
      · exact sound.congr eq
      · exact WindowSound.congr (s := setIndexError s) sound eq
  have faulted {cause : FaultCause} {op : OpId} (real : cause ≠ .none)
      (busy : s.completionRing.writing ≠ none ∨ s.captureRing.writing ≠ none)
      (h : finishState (deviceFault cause (returnOp op s)) = .next t) : OffIsEmpty t ∧ WindowSound t := by
    obtain ⟨control, code, error, reads, -, -⟩ := sound
    have on := empty.on_of_writing busy
    refine keeps_of_finishState h (PartEmpty.offIsEmpty { partEmpty_dropWork (returnOp op s) with }) ?_
    exact ⟨control, code, error, by simpa [on, deviceFault, dropWork, releaseAll] using reads, nofun, fun _ => real⟩
  cases c with
  | enable =>
    simp only [exec, execEnable] at h
    split at h
    · next off =>
      obtain ⟨-, code, error, -, -, -⟩ := sound
      have vacant := empty.partEmpty (by simp [off])
      refine keeps_of_finishState h (PartEmpty.offIsEmpty { vacant with }) ?_
      have known : (controlWord 1 0).toNat < 4096 := by decide
      exact ⟨known, code, error, by simp [beginSetup], nofun, nofun⟩
    · exact refused h
  | disable =>
    simp only [exec, execDisable] at h
    have accepted := sound.acceptCommand 2 (by decide) 0
    split at h
    · exact keeps_of_finishState h (empty.withWindow rfl) accepted
    · exact keeps_of_finishState h (PartEmpty.offIsEmpty { partEmpty_dropWork (acceptCommand 2 0 s) with })
        (accepted.moved (d := .off) (cause := s.window.faultCause) nofun nofun nofun rfl)
  | reset | powerOn | resetPin => exact reset h
  | abort m =>
    simp only [exec, execAbort] at h
    split at h
    · next on =>
      have window : t.window = (acceptCommand 4 m s).window := (window_of_finish h).trans (abortWork_window m _)
      exact ⟨offIsEmpty_of_on (window ▸ on), (sound.acceptCommand 4 (by decide) m).congr window⟩
    · exact refused h
  | start m =>
    simp only [exec, execStart] at h
    split at h
    · next on => exact keeps_of_finishState h (offIsEmpty_of_on on) (sound.acceptCommand 5 (by decide) m)
    · exact refused h
  | unknownCommand code =>
    simp only [exec, execUnknownCommand] at h
    split at h
    · exact refused h
    · cases h
  | submit l tail =>
    by_cases on : s.window.device = .on
    · rw [exec_submit_of_on l tail on] at h
      split at h
      · exact keeps_of_finishState h (offIsEmpty_of_on on) (sound.congr rfl)
      · exact keeps_of_finishState h (empty.withWindow rfl) sound.setIndexError
    · exact refused ((exec_submit_of_not_on l tail on).symm.trans h)
  | acknowledgeCompletion head =>
    by_cases on : s.window.device = .on
    · rw [exec_acknowledgeCompletion_of_on head on] at h
      refine acknowledged ?_ on h
      exact fun _ _ => rfl
    · exact refused ((exec_acknowledge_of_not_on head on).1.symm.trans h)
  | acknowledgeCapture head =>
    by_cases on : s.window.device = .on
    · rw [exec_acknowledgeCapture_of_on head on] at h
      refine acknowledged ?_ on h
      exact fun _ _ => rfl
    · exact refused ((exec_acknowledge_of_not_on head on).2.symm.trans h)
  | statusWrite w => exact keeps_of_finishState h (empty.withWindow rfl) (sound.clearSticky w)
  | setupLoWrite | setupHiWrite => exact keeps_of_finishState h (empty.withWindow rfl) sound
  | setupReadReturn reply =>
    exact keeps_of_finishState h (offIsEmpty_setupReturn empty reply) (windowSound_setupReturn sound reply)
  | completionWriteError =>
    simp only [exec, execCompletionWriteError] at h
    split at h
    · exact keeps_of_finishState h empty sound
    · next op writing => exact faulted (cause := .completionWrite) nofun (.inl (by simp [writing])) h
  | captureWriteError =>
    simp only [exec, execCaptureWriteError] at h
    split at h
    · exact keeps_of_finishState h empty sound
    · next op writing => exact faulted (cause := .captureWrite) nofun (.inr (by simp [writing])) h
  | _ =>
    have window := exec_window rfl h
    refine ⟨offIsEmpty_iff.2 fun off => ?_, sound.congr window⟩
    rw [window] at off
    exact (empty.partEmpty off).exec_of_not_on off rfl h

theorem partEmpty_tick (h : PartEmpty s) : PartEmpty (tick s) :=
  { h with
    pins := forall_mem_mapTable (fun _ _ unowned => unowned) h.pins }

/-- Settles O55. -/
theorem stepKeepsOffEmptyAndRegistersSound : Obligations.StepKeepsOffEmptyAndRegistersSound := by
  rintro s t ⟨empty, sound⟩ h
  have command {c : Instr} {n : Nat} {rest : List Instr} (h : exec c { s with pending := rest, choices := n } = .next t) :
      OffIsEmpty t ∧ WindowSound t :=
    exec_keeps_offIsEmpty_windowSound (s := { s with pending := rest, choices := n }) (offIsEmpty_iff.2 fun off => { empty.partEmpty off with }) (sound.congr rfl) h
  rw [step] at h
  split at h
  · obtain ⟨n, counted, none | ⟨c, own, chosen⟩⟩ := chooseEvent_cases tickEvents s
    · simp only [idle, ownEvent, none] at h
      rw [← Host.Outcome.next.inj h]
      exact ⟨offIsEmpty_iff.2 fun off => partEmpty_tick (empty.partEmpty off), sound⟩
    · simp only [idle, ownEvent, chosen, counted] at h
      exact command h
  · exact command h

/-! ### The Host Port in every event (R163) -/

theorem turns_of_nobody (nobody : (turnOrder s.port.lastServed).find? (presents s) = none) (n : Nat) : turns n s = s := by
  cases n with
  | zero => rfl
  | succ n => rw [turns, nobody]

theorem turns_succ_of_first {r : Requester} (first : (turnOrder s.port.lastServed).find? (presents s) = some r) (n : Nat) :
    turns (n + 1) s = turns n (issueTurn r s) := by rw [turns, first]

/-- Every bound that the requests fit gives the same turns. -/
theorem turns_eq_turns {n m : Nat} (hn : requestsLeft s ≤ n) (hm : requestsLeft s ≤ m) : turns n s = turns m s := by
  induction n generalizing s m with
  | zero =>
    cases first : (turnOrder s.port.lastServed).find? (presents s) with
    | none => rw [turns_of_nobody first, turns_of_nobody first]
    | some r =>
      have less := requestsLeft_issueTurn_lt (List.find?_some first)
      omega
  | succ n ih =>
    cases first : (turnOrder s.port.lastServed).find? (presents s) with
    | none => rw [turns_of_nobody first, turns_of_nobody first]
    | some r =>
      have less := requestsLeft_issueTurn_lt (List.find?_some first)
      obtain ⟨m, rfl⟩ : ∃ k, m = k + 1 := ⟨m - 1, by omega⟩
      rw [turns_succ_of_first first, turns_succ_of_first first]
      exact ih (by omega) (by omega)

theorem hostPort_of_first {r : Requester} (first : (turnOrder s.port.lastServed).find? (presents s) = some r) :
    hostPort s = hostPort (issueTurn r s) := by
  have less := requestsLeft_issueTurn_lt (List.find?_some first)
  have enough := requestsLeft_le_bound s
  rw [hostPort, show 8 + stagedCount s = 7 + stagedCount s + 1 by omega, turns_succ_of_first first]
  exact turns_eq_turns (by omega) (requestsLeft_le_bound _)

/-- A command ends with the Host Port's turns, or it is a reset. -/
theorem exec_ends {c : Instr} (h : exec c s = .next t) : t = resetPart s ∨ ∃ u, t = hostPort u := by
  have done {e : Effect} (h : finish e = .next t) : t = resetPart s ∨ ∃ u, t = hostPort u :=
    .inr ⟨_, (Host.Outcome.next.inj h).symm⟩
  have doneState {u : State} (h : finishState u = .next t) : t = resetPart s ∨ ∃ u, t = hostPort u :=
    .inr ⟨_, (Host.Outcome.next.inj h).symm⟩
  have timed {e : TimedEvent} (h : runTimed e s = .next t) : t = resetPart s ∨ ∃ u, t = hostPort u := by
    cases e <;> simp only [runTimed, execClaimTimeout, execGroupDeadline, execGroupStartTick, execMarkDue, execBurstStart,
      execStrobe, execPeriodEnd, execHoldoffExpiry] at h
    all_goals repeat' split at h
    all_goals simp only [finish, finishState, Host.Outcome.next.injEq, reduceCtorEq] at h
    all_goals exact .inr ⟨_, h.symm⟩
  cases c with
  | reset | powerOn | resetPin => exact .inl (Host.Outcome.next.inj h).symm
  | statusWrite | setupLoWrite | setupHiWrite | setupReadReturn | discardedFetchReturn | captureWriteDone =>
    exact doneState h
  | recordArrival | fetchBusError | loadReadReturn | loadFault | withdrawnLoadReturn | completionWriteDone =>
    exact done h
  | hostPortTurn => exact .inr ⟨s, (Host.Outcome.next.inj h).symm⟩
  | claimTimeout l => exact timed (e := .claimTimeout l) h
  | groupDeadline g => exact timed (e := .groupDeadline g) h
  | groupStartTick g => exact timed (e := .groupStartTick g) h
  | markDue l => exact timed (e := .markDue l) h
  | burstStart l => exact timed (e := .burstStart l) h
  | strobe l => exact timed (e := .strobe l) h
  | periodEnd l => exact timed (e := .periodEnd l) h
  | holdoffExpiry r => exact timed (e := .holdoffExpiry r) h
  | enable | disable | abort | start | unknownCommand | submit | acknowledgeCompletion | acknowledgeCapture
  | registerWrite | rawLevelChange | qualifierSample | staleReturn | completionWriteError | captureWriteError =>
    simp only [exec, execEnable, execDisable, execAbort, execStart, execUnknownCommand, execSubmit,
      execAcknowledgeCompletion, execAcknowledgeCapture, execRegisterWrite, execRawLevelChange, execQualifierSample,
      execStaleReturn, execCompletionWriteError, execCaptureWriteError, refuseCommand] at h
    repeat' split at h
    all_goals simp only [finish, finishState, Host.Outcome.next.injEq, reduceCtorEq] at h
    all_goals exact .inr ⟨_, h.symm⟩

theorem exec_portQuiet {c : Instr} (h : exec c s = .next t) : PortQuiet t := by
  rcases exec_ends h with rfl | ⟨u, rfl⟩
  · exact portQuiet_of_not_on nofun
  · exact portQuiet_hostPort u

theorem PortQuiet.tick (quiet : PortQuiet s) : PortQuiet (tick s) := by
  intro r mem
  rw [← quiet r mem]
  cases r <;> rfl

/-- What a step is: the front command, an own event of the tick with the choices counted, or the next tick. -/
theorem step_cases (s : State) :
    (∃ c rest, s.pending = c :: rest ∧ step s = exec c { s with pending := rest })
      ∨ (s.pending = [] ∧ ∃ n, ∃ c ∈ tickEvents { s with choices := n }, step s = exec c { s with choices := n })
      ∨ (s.pending = [] ∧ step s = .next (Machine.tick s)
          ∧ ∃ n, tickEvents { s with choices := n } = []) := by
  by_cases queue : s.pending = []
  · right
    have alone : step s = idle s := by rw [step, queue]
    obtain ⟨n, counted, ⟨none_left, none⟩ | ⟨c, own, chosen⟩⟩ := chooseEvent_cases tickEvents s
    · exact .inr ⟨queue, by rw [alone, idle, ownEvent, none], n, none_left⟩
    · exact .inl ⟨queue, n, c, own, by rw [alone, idle, ownEvent, chosen, counted]⟩
  · obtain ⟨c, rest, queue⟩ := List.exists_cons_of_ne_nil queue
    exact .inl ⟨c, rest, queue, by rw [step, queue]⟩

/-- Settles O20. -/
theorem hostPortServesUntilNobodyPresents : Obligations.HostPortServesUntilNobodyPresents := by
  refine ⟨fun s => ⟨_, rfl, hostPort_frame s, portQuiet_hostPort s, fun quiet => turns_of_portQuiet quiet _⟩,
    fun s before after r order others asks => ?_, fun last => ?_, fun c s t h => exec_portQuiet h, fun s t quiet h => ?_⟩
  · show Host.Outcome.next (hostPort s) = .next (hostPort (issueTurn r s))
    have first : (turnOrder s.port.lastServed).find? (presents s) = some r := by
      rw [order, List.find?_append, List.find?_eq_none.2 fun q mem => by simp [others q mem]]
      simp [asks]
    rw [hostPort_of_first first]
  · cases last with
    | loader l => fin_cases l <;> rfl
    | fetch | completion | capture => rfl
  · rcases step_cases s with ⟨c, rest, -, eq⟩ | ⟨-, n, c, -, eq⟩ | ⟨-, eq, -⟩
    · exact exec_portQuiet (eq.symm.trans h)
    · exact exec_portQuiet (eq.symm.trans h)
    · rw [← Host.Outcome.next.inj (eq.symm.trans h)]
      exact quiet.tick

/-! ### The state after reset -/

theorem lane_reset (l : LaneId) : State.reset.lane l = LaneState.reset := by rw [State.lane, State.reset, replicate_get]

theorem pin_reset (n : PinId) : State.reset.pins.get n = PinEntry.reset := by rw [State.reset, replicate_get]

theorem blocksPartitioned_reset : BlocksPartitioned State.reset :=
  blocksPartitioned_of_empty (by rw [State.reset, Allocator.reset, Config.storeBlocks]) fun l => by
    rw [lane_reset]
    exact ⟨rfl, rfl⟩

/-- Settles O60. -/
theorem resetStateIsSound : Obligations.ResetStateIsSound := by
  have ring : RingWriter.reset.sound := ⟨by decide, by decide, by decide, nofun⟩
  refine ⟨blocksPartitioned_reset, reset_store_wf, forall_mem_toList_iff.2 fun n => ?_,
    groupsSound_of_idle partEmpty_reset.groups, ⟨by decide, by decide⟩, fun l => ?_,
    ⟨ring, ring, nofun, nofun⟩, Nat.zero_le _, portQuiet_of_not_on nofun, partEmpty_reset.offIsEmpty, windowSound_reset,
    fun n hn => ?_, fun l tripped => ?_, burstsFit_of_empty rfl fun l => ?_⟩
  · rw [pin_reset]
    exact ⟨nofun, rfl, fun _ => rfl, nofun⟩
  · rw [lane_reset]
    simp [LaneState.bounded, LaneState.reset]
  · have level := Qualifier.pin_eq State.reset.qualifier ⟨n, hn⟩
    rw [level, State.reset, replicate_get]
    exact Nat.zero_le _
  · rw [lane_reset] at tripped
    cases tripped
  · rw [lane_reset]
    exact ⟨rfl, rfl, rfl⟩

end

end Sys2Proof.Machine
end

section
/-! The timebase and the steps of an empty queue (R98, R99). What an event does to the timebase and to the qualifier is said
once for each operation: all but a look and a reset leave both as they were. -/

namespace Sys2Proof.Machine

section
variable {s t u : State}

/-! ### The part's own events -/

/-- An event falls at the present tick and has not been taken. -/
def TimedEvent.DueIn (s : State) : TimedEvent → Prop
  | .claimTimeout l => ∃ c ∈ s.claims, c.lane = l ∧ c.expiry = s.timebase
  | .groupDeadline g => (s.group g).state = .forming ∧ (s.group g).deadline = s.timebase
  | .groupStartTick g => (s.group g).state = .committed ∧ (s.group g).startTick = s.timebase
  | .markDue l => ∃ a late, (s.lane l).active = some a ∧ a.kind = 3 ∧ a.context = .timeWait s.timebase late
  | .burstStart l => ∃ a late, (s.lane l).active = some a ∧ a.kind = 1 ∧ a.context = .timeWait s.timebase late
  | .strobe l => ∃ a e, (s.lane l).active = some a ∧ a.context = .playing e ∧ e.strobed = false
      ∧ e.periodStart + (burstOf a.record).strobeOffset.setWidth 48 = s.timebase
  | .periodEnd l => ∃ a e, (s.lane l).active = some a ∧ a.context = .playing e
      ∧ e.periodStart + e.periodLength = s.timebase
  | .holdoffExpiry .completion => s.interrupt.completion.timer = some s.timebase
  | .holdoffExpiry .capture => s.interrupt.capture.timer = some s.timebase

theorem waitEnds_of_waiting {kind : Byte} {l : LaneId} {a : Active} {late : Bool} (active : (s.lane l).active = some a)
    (known : a.kind = kind) (waits : a.context = .timeWait s.timebase late) : waitEnds kind l s = some (a, late) := by
  simp [waitEnds, active, waits, known]

theorem playingBurst_of_playing {l : LaneId} {a : Active} {e : Engine} (active : (s.lane l).active = some a)
    (playing : a.context = .playing e) : playingBurst l s = some (a, e) := by simp [playingBurst, active, playing]

theorem waitEnds_isSome_iff (kind : Byte) (l : LaneId) (s : State) :
    (waitEnds kind l s).isSome = true
      ↔ ∃ a late, (s.lane l).active = some a ∧ a.kind = kind ∧ a.context = .timeWait s.timebase late := by
  rw [Option.isSome_iff_exists]
  constructor
  · rintro ⟨r, ends⟩
    exact ⟨r.1, r.2, waitEnds_eq_some ends⟩
  · rintro ⟨a, late, active, known, waits⟩
    exact ⟨_, waitEnds_of_waiting active known waits⟩

theorem playingBurst_any_iff (l : LaneId) (s : State) (p : Active × Engine → Bool) :
    (playingBurst l s).any p = true
      ↔ ∃ a e, (s.lane l).active = some a ∧ a.context = .playing e ∧ p (a, e) = true := by
  constructor
  · intro h
    obtain ⟨r, plays, holds⟩ := (Option.any_eq_true _ _).1 h
    obtain ⟨active, playing⟩ := playingBurst_eq_some plays
    exact ⟨r.1, r.2, active, playing, holds⟩
  · rintro ⟨a, e, active, playing, holds⟩
    rw [playingBurst_of_playing active playing]
    exact holds

theorem mem_allGroups : ∀ g : GroupId, g ∈ allGroups := by decide

theorem mem_timedEvents_iff (e : TimedEvent) (s : State) : e ∈ timedEvents s ↔ e.DueIn s := by
  cases e with
  | claimTimeout l => simp [timedEvents, mem_allLanes, TimedEvent.DueIn, claimExpires_iff]
  | groupDeadline g => simp [timedEvents, mem_allGroups, TimedEvent.DueIn, deadlineDue_iff]
  | groupStartTick g => simp [timedEvents, mem_allGroups, TimedEvent.DueIn, groupStartDue_iff]
  | markDue l => simp [timedEvents, mem_allLanes, TimedEvent.DueIn, waitEnds_isSome_iff, kindMark]
  | burstStart l => simp [timedEvents, mem_allLanes, TimedEvent.DueIn, waitEnds_isSome_iff, kindBurst]
  | strobe l => simp [timedEvents, mem_allLanes, TimedEvent.DueIn, playingBurst_any_iff, strobeDue_iff]
  | periodEnd l => simp [timedEvents, mem_allLanes, TimedEvent.DueIn, playingBurst_any_iff, Engine.periodEnd]
  | holdoffExpiry r => cases r <;> simp [timedEvents, TimedEvent.DueIn, ringTimer]

theorem levelsDiffer_iff (s : State) :
    levelsDiffer s = true ↔ ∃ n : PinId, (s.pin n).qualifierCount = 0
      ∧ (rawLevel s n ≠ (s.qualifier.pin n).level ∨ ownLevel s n ≠ (s.qualifier.pin n).level) := by
  simp only [levelsDiffer, ownChange, List.any_eq_true, List.mem_range, Bool.or_eq_true, Bool.and_eq_true, beq_iff_eq,
    bne_iff_ne]
  constructor
  · rintro ⟨n, small, ⟨count, differs⟩ | ⟨count, differs⟩⟩
    · exact ⟨⟨n, small⟩, count, .inl differs⟩
    · exact ⟨⟨n, small⟩, count, .inr differs⟩
  · rintro ⟨n, count, differs⟩
    exact ⟨n.val, n.isLt, differs.imp (⟨count, ·⟩) (⟨count, ·⟩)⟩

theorem sampleReady_iff (s : State) :
    sampleReady s = true ↔ s.window.device = .on ∧ s.qualifier.nextSample = s.timebase ∧ lookReady s = true := by
  simp [sampleReady, State.on, sampleDue, and_assoc]

theorem levelLookDue_iff (s : State) :
    levelLookDue s = true ↔ s.window.device = .on ∧ s.qualifier.nextSample ≠ s.timebase ∧ lookReady s = true
      ∧ ∃ n : PinId, (s.pin n).qualifierCount = 0
        ∧ (rawLevel s n ≠ (s.qualifier.pin n).level ∨ ownLevel s n ≠ (s.qualifier.pin n).level) := by
  rw [← levelsDiffer_iff]
  simp [levelLookDue, State.on, sampleDue, and_assoc, and_comm]

theorem mem_tickEvents_iff (i : Instr) (s : State) :
    i ∈ tickEvents s ↔ (i = .qualifierSample ∧ sampleReady s = true)
      ∨ (i = .rawLevelChange s.outside.level s.outside.hold ∧ levelLookDue s = true)
      ∨ ∃ e, e.DueIn s ∧ i = timedCommand e := by
  simp only [tickEvents, List.mem_append, List.mem_map, mem_timedEvents_iff, or_assoc]
  refine or_congr ?_ (or_congr ?_ (exists_congr fun e => and_congr_right fun _ => eq_comm))
  · split <;> simp [*]
  · split <;> simp [*]

/-! ### A step of an empty queue -/

theorem timedEvents_of_no_event (none : tickEvents s = []) : timedEvents s = [] := by
  simp only [tickEvents, List.append_eq_nil_iff, List.map_eq_nil_iff] at none
  exact none.2

theorem step_of_no_event (queue : s.pending = []) (none : tickEvents s = []) : step s = .next (tick s) := by
  have last := timedEvents_of_no_event none
  simp [step, queue, idle, ownEvent, chooseEvent, last, none]

theorem step_of_event (queue : s.pending = []) (some : tickEvents s ≠ []) :
    ∃ n, ∃ c ∈ tickEvents { s with choices := n }, step s = exec c { s with choices := n } := by
  have alone : step s = idle s := by rw [step, queue]
  by_cases last : timedEvents s = []
  · obtain ⟨c, cs, events⟩ := List.exists_cons_of_ne_nil some
    refine ⟨s.choices, c, by rw [events]; exact List.mem_cons_self .., ?_⟩
    rw [alone]
    simp [idle, ownEvent, chooseEvent, last, events]
  · obtain ⟨n, counted, ⟨none, -⟩ | ⟨c, own, chosen⟩⟩ := chooseEvent_cases tickEvents s
    · exact absurd (timedEvents_of_no_event none) last
    · exact ⟨n, c, own, by rw [alone, idle, ownEvent, chosen, counted]⟩

/-- Settles O2. -/
theorem idleStepTakesDueEventOrTicks : Obligations.IdleStepTakesDueEventOrTicks := by
  refine ⟨fun s queue => ⟨step_of_event queue, fun none => ⟨⟨_, step_of_no_event queue none, fun n => ?_⟩, fun on => ?_⟩⟩,
    fun i s => ?_⟩
  · rw [mapTable_get, ← State.pin_eq]
    simp [ownChange]
  · have never (i : Instr) : i ∉ tickEvents s := by simp [none]
    have stands := levelsStand_of_last queue (timedEvents_of_no_event none)
    have sampled : s.qualifier.nextSample ≠ s.timebase := fun due =>
      never _ ((mem_tickEvents_iff _ s).2 (.inl ⟨rfl, (sampleReady_iff s).2
        ⟨on, due, (lookReady_iff s).2 ⟨.inr ((sampleDue_iff s).2 due), stands⟩⟩⟩))
    refine ⟨sampled, or_iff_not_imp_left.2 fun fresh n count => ?_⟩
    have ready : lookReady s = true := (lookReady_iff s).2 ⟨.inl (Bool.eq_false_iff.2 fresh), stands⟩
    by_contra differs
    refine never _ ((mem_tickEvents_iff _ s).2 (.inr (.inl ⟨rfl, (levelLookDue_iff s).2 ⟨on, sampled, ready, n, count, ?_⟩⟩)))
    exact not_and_or.1 differs
  · rw [mem_tickEvents_iff, sampleReady_iff, levelLookDue_iff]
    refine or_congr Iff.rfl (or_congr Iff.rfl ⟨?_, ?_⟩)
    · rintro ⟨e, due, rfl⟩
      cases e with
      | claimTimeout l =>
        obtain ⟨c, waiting, rfl, expires⟩ := due
        exact .inl ⟨c, waiting, rfl, expires⟩
      | groupDeadline g => exact .inr (.inl ⟨g, rfl, due⟩)
      | groupStartTick g => exact .inr (.inr (.inl ⟨g, rfl, due⟩))
      | markDue l =>
        obtain ⟨a, late, active, known, waits⟩ := due
        exact .inr (.inr (.inr (.inl ⟨l, a, late, active, waits, .inl ⟨rfl, known⟩⟩)))
      | burstStart l =>
        obtain ⟨a, late, active, known, waits⟩ := due
        exact .inr (.inr (.inr (.inl ⟨l, a, late, active, waits, .inr ⟨rfl, known⟩⟩)))
      | strobe l =>
        obtain ⟨a, e, active, playing, ahead⟩ := due
        exact .inr (.inr (.inr (.inr (.inl ⟨l, a, e, active, playing, .inl ⟨rfl, ahead⟩⟩))))
      | periodEnd l =>
        obtain ⟨a, e, active, playing, ends⟩ := due
        exact .inr (.inr (.inr (.inr (.inl ⟨l, a, e, active, playing, .inr ⟨rfl, ends⟩⟩))))
      | holdoffExpiry r =>
        cases r with
        | completion => exact .inr (.inr (.inr (.inr (.inr (.inl ⟨rfl, due⟩)))))
        | capture => exact .inr (.inr (.inr (.inr (.inr (.inr ⟨rfl, due⟩)))))
    · rintro (⟨c, waiting, rfl, expires⟩ | ⟨g, rfl, due⟩ | ⟨g, rfl, due⟩
        | ⟨l, a, late, active, waits, ⟨rfl, known⟩ | ⟨rfl, known⟩⟩
        | ⟨l, a, e, active, playing, ⟨rfl, ahead⟩ | ⟨rfl, ends⟩⟩ | ⟨rfl, due⟩ | ⟨rfl, due⟩)
      · exact ⟨.claimTimeout c.lane, ⟨c, waiting, rfl, expires⟩, rfl⟩
      · exact ⟨.groupDeadline g, due, rfl⟩
      · exact ⟨.groupStartTick g, due, rfl⟩
      · exact ⟨.markDue l, ⟨a, late, active, known, waits⟩, rfl⟩
      · exact ⟨.burstStart l, ⟨a, late, active, known, waits⟩, rfl⟩
      · exact ⟨.strobe l, ⟨a, e, active, playing, ahead⟩, rfl⟩
      · exact ⟨.periodEnd l, ⟨a, e, active, playing, ends⟩, rfl⟩
      · exact ⟨.holdoffExpiry .completion, due, rfl⟩
      · exact ⟨.holdoffExpiry .capture, due, rfl⟩

end

end Sys2Proof.Machine
end

section
/-! What an event does to the timebase and to the qualifier (R98, R113): all but a look, a reset and a change of the device
state leave both as they were. It is said once for each operation, and once for what the firings of a look leave. -/

namespace Sys2Proof.Machine

section
variable {s t u : State}

/-! ### The timebase and the qualifier -/

/-- The timebase and the qualifier are as they were. -/
structure Steady (s t : State) : Prop where
  timebase : t.timebase = s.timebase
  qualifier : t.qualifier = s.qualifier

theorem Steady.refl (s : State) : Steady s s := ⟨rfl, rfl⟩

theorem Steady.trans (h : Steady s t) (k : Steady t u) : Steady s u :=
  ⟨k.timebase.trans h.timebase, k.qualifier.trans h.qualifier⟩

/-- An update that touches neither, before what leaves them. -/
theorem Steady.after (h : Steady t u) (timebase : t.timebase = s.timebase) (qualifier : t.qualifier = s.qualifier) :
    Steady s u := .trans ⟨timebase, qualifier⟩ h

theorem EventFrame.steady (h : EventFrame s t) : Steady s t := ⟨h.timebase, h.qualifier⟩

theorem Steady.finish {e : Effect} (h : Steady s e.1) (next : Machine.finish e = .next t) : Steady s t :=
  Host.Outcome.next.inj next ▸ h.trans (finish_frame e).steady

theorem Steady.finishState (h : Steady s u) (next : Machine.finishState u = .next t) : Steady s t :=
  Host.Outcome.next.inj next ▸ h.trans (hostPort_frame u).event.steady

/-! ### Firings (R130 to R135) -/

/-- What the firings of a look leave as it was. -/
structure FiringFrame (s t : State) : Prop where
  pending : t.pending = s.pending
  timebase : t.timebase = s.timebase
  window : t.window = s.window
  port : t.port = s.port
  lastLane : t.lastLane = s.lastLane
  store : t.store = s.store
  qualifier : t.qualifier = s.qualifier
  captureRing : t.captureRing = s.captureRing
  waiting : t.post.waiting = s.post.waiting
  completionRing : t.completionRing = s.completionRing
  interrupt : t.interrupt = s.interrupt
  outside : t.outside = s.outside

theorem FiringFrame.refl (s : State) : FiringFrame s s := by constructor <;> rfl

theorem FiringFrame.trans (h : FiringFrame s t) (k : FiringFrame t u) : FiringFrame s u where
  pending := k.pending.trans h.pending
  timebase := k.timebase.trans h.timebase
  window := k.window.trans h.window
  port := k.port.trans h.port
  lastLane := k.lastLane.trans h.lastLane
  store := k.store.trans h.store
  qualifier := k.qualifier.trans h.qualifier
  captureRing := k.captureRing.trans h.captureRing
  waiting := k.waiting.trans h.waiting
  completionRing := k.completionRing.trans h.completionRing
  interrupt := k.interrupt.trans h.interrupt
  outside := k.outside.trans h.outside

theorem FiringFrame.steady (h : FiringFrame s t) : Steady s t := ⟨h.timebase, h.qualifier⟩

theorem arrange_firingFrame {α : Type} (xs : List α) (s : State) : FiringFrame s (arrange xs s).2 := by
  obtain ⟨n, eq⟩ := arrange_choices xs s
  rw [eq]
  constructor <;> rfl

theorem withdrawThen_firingFrame (w : Status) (after : LaneState → LaneState) (l : LaneId) (s : State) :
    FiringFrame s (withdrawThen w after l s).1 := by
  rw [withdrawThen_eq]
  constructor <;> rfl

theorem recordFiring_firingFrame (i : SetId) (lanes : LaneMask) (s : State) :
    FiringFrame s (recordFiring i lanes s) := by
  simp only [recordFiring]
  split
  · split
    · constructor <;> rfl
    · constructor <;> rfl
  · constructor <;> rfl

theorem eachLane_keeps {R : State → State → Prop} (refl : ∀ s, R s s) (trans : ∀ {s t u}, R s t → R t u → R s u)
    {f : LaneId → State → Effect} (each : ∀ l s, R s (f l s).1) (ls : List LaneId) (s : State) : R s (eachLane f ls s).1 := by
  induction ls generalizing s with
  | nil => exact refl s
  | cons l ls ih => exact trans (each l s) (ih _)

theorem fireSet_firingFrame (i : SetId) (s : State) : FiringFrame s (fireSet i s).1 :=
  ((arrange_firingFrame _ s).trans (eachLane_keeps FiringFrame.refl FiringFrame.trans
    (f := tripLane) (fun l s => withdrawThen_firingFrame .tripped (fun x => { x with run := .tripped }) l s) _ _)).trans (recordFiring_firingFrame _ _ _)

theorem fireSets_firingFrame (is : List SetId) (s : State) : FiringFrame s (fireSets is s).1 := by
  induction is generalizing s with
  | nil => exact .refl s
  | cons i is ih => exact (fireSet_firingFrame i s).trans (ih _)

theorem handOver_firingFrame (changed : Pins) (s : State) : FiringFrame s (handOver changed s).1 := by
  have evaluated : FiringFrame s { s with
      trips := mapTable (fun _ t => t.evaluate changed (qualifiedLevels s.qualifier)) s.trips } := by
    constructor <;> rfl
  have counted (t : State) (n : Nat) : FiringFrame t { t with choices := n } := by constructor <;> rfl
  have captured (t : State) (c : Capture) : FiringFrame t { t with capture := c } := by constructor <;> rfl
  exact ((((evaluated.trans (arrange_firingFrame _ _)).trans (counted _ _)).trans (fireSets_firingFrame _ _)).trans
    (captured _ _)).trans (arrange_firingFrame _ _)

/-- What a look and its firings leave, and the qualifier after it. -/
theorem qualifierLook_firingFrame (s : State) : FiringFrame { s with qualifier := lookQualifier s } (qualifierLook s).1 := by
  have cleared : FiringFrame { s with qualifier := lookQualifier s } { clearNotes s with qualifier := lookQualifier s } := by
    constructor <;> rfl
  exact cleared.trans (handOver_firingFrame _ _)

theorem takeLook_timebase (s : State) : (takeLook s).1.timebase = s.timebase := by
  rcases takeLook_cases s with ⟨-, look⟩ | ⟨-, nothing⟩
  · rw [look]
    exact (qualifierLook_firingFrame s).timebase
  · rw [nothing]

/-! ### Lanes, returns and timed events -/

theorem resolveShadow_steady (l : LaneId) (w : Status) (s : State) : Steady s (resolveShadow l w s).1 := by
  rw [resolveShadow_eq]
  exact ⟨rfl, rfl⟩

theorem abortWork_steady (m : LaneMask) (s : State) : Steady s (abortWork m s).1 := by
  rw [abortWork_eq]
  exact ((arrange_firingFrame _ _).trans ((eachLane_keeps FiringFrame.refl FiringFrame.trans
    (withdrawThen_firingFrame .aborted _) _ _).trans (arrange_firingFrame _ _))).steady

theorem arriveRetune_steady (l : LaneId) (r : Bytes 64) (s : State) : Steady s (arriveRetune l r s).1 := by
  simp only [arriveRetune]
  split
  · split
    · exact (resolveShadow_steady l .superseded s).trans ⟨rfl, rfl⟩
    · exact ⟨rfl, rfl⟩
  · exact ⟨rfl, rfl⟩

theorem stageRecord_steady (l : LaneId) (e : Entry) (s : State) : Steady s (stageRecord l e s).1 := by
  simp only [stageRecord]
  split
  · exact (setStaging_frame s l _).steady.trans (placeRequest_frame l _).steady
  · exact ⟨rfl, rfl⟩

theorem recordArrives_steady (l : LaneId) (r : Bytes 64) (s : State) : Steady s (recordArrives l r s).1 := by
  simp only [recordArrives]
  split
  · exact (arriveRetune_steady l r _).after rfl rfl
  · exact (stageRecord_steady l _ _).after rfl rfl

theorem fetchReturn_steady (l : LaneId) (reply : ReadReply 64) (s : State) : Steady s (fetchReturn l reply s).1 := by
  simp only [fetchReturn]
  split
  · exact .refl s
  · exact ⟨rfl, rfl⟩
  · cases reply with
    | data r => exact (recordArrives_steady l r _).after rfl rfl
    | busError => exact ⟨rfl, rfl⟩

theorem discardedReturn_steady (l : LaneId) (s : State) : Steady s (discardedReturn l s) := by
  rw [discardedReturn]
  split <;> exact ⟨rfl, rfl⟩

theorem acceptLoad_steady (l : LaneId) (k : Nat) (e : Entry) (d : Bytes 256) (s : State) :
    Steady s (acceptLoad l k e d s).1 := by
  simp only [acceptLoad]
  split <;> exact ⟨rfl, rfl⟩

theorem loadReturn_steady (l : LaneId) (k : Nat) (reply : LoadReturn) (s : State) : Steady s (loadReturn l k reply s).1 := by
  simp only [loadReturn]
  split
  · exact .refl s
  · split
    · split
      · exact ⟨rfl, rfl⟩
      · exact (acceptLoad_steady l k _ _ _).after rfl rfl
      · exact ⟨rfl, rfl⟩
    · exact .refl s

theorem withdrawnReturn_steady (l : LaneId) (k : Nat) (s : State) : Steady s (withdrawnReturn l k s).1 := by
  simp only [withdrawnReturn]
  split
  · exact .refl s
  · split <;> exact ⟨rfl, rfl⟩

theorem placeCarry_steady (i : SetId) (s : State) : Steady s (placeCarry i s) := by
  rw [placeCarry]
  split <;> exact ⟨rfl, rfl⟩

theorem completionDone_steady (s : State) : Steady s (completionDone s).1 := by
  simp only [completionDone]
  split
  · next op i rest writing items =>
    refine Steady.after (t := completionWritten (returnOp op { s with post := { s.post with items := rest } })) ?_ rfl rfl
    cases i.source with
    | general =>
      simp only [entryFreed, grantOldestPoster]
      split
      · exact .refl _
      · exact (grantPort_frame _ _).steady.after rfl rfl
    | trip i => exact placeCarry_steady i _
  · exact .refl s

theorem captureDone_steady (s : State) : Steady s (captureDone s) := by
  rw [captureDone]
  split <;> exact ⟨rfl, rfl⟩

theorem gather_steady (e : Effect) : Steady e.1 (gather e).1 := (arrange_firingFrame _ _).steady

theorem claimTimesOut_steady (l : LaneId) (s : State) : Steady s (claimTimesOut l s).1 := by
  simp only [claimTimesOut]
  split
  · exact ⟨rfl, rfl⟩
  · split
    · exact (retire_frame l _ _ _).steady.after rfl rfl
    · exact ⟨rfl, rfl⟩

/-- A group ends and its members, in a free order, go on. -/
theorem groupMembers_steady {f : LaneId → State → Effect} (each : ∀ l s, Steady s (f l s).1) (g : GroupId)
    (ls : List LaneId) (s : State) :
    Steady s (gather (eachLane f (arrange ls (s.setGroup g Group.idle)).1 (arrange ls (s.setGroup g Group.idle)).2)).1 :=
  (((setGroup_frame g Group.idle s).steady.trans (arrange_firingFrame _ _).steady).trans
    (eachLane_keeps Steady.refl Steady.trans each _ _)).trans (gather_steady _)

theorem memberTimesOut_steady (l : LaneId) (s : State) : Steady s (memberTimesOut l s).1 := by
  rw [memberTimesOut]
  split
  · exact .refl s
  · exact (retire_frame l _ _ s).steady

theorem vectorBoundary_steady (l : LaneId) (a : Active) (e : Engine) (j : Nat) (v : Vec) (s : State) :
    Steady s (vectorBoundary l a e j v s).1 := by
  rw [vectorBoundary_eq]
  dsimp only
  split <;> exact ⟨rfl, rfl⟩

theorem enterPlaying_steady (l : LaneId) (a : Active) (late grouped : Bool) (v : Vec) (s : State) :
    Steady s (enterPlaying l a late grouped v s).1 :=
  (resolveShadow_steady l .superseded s).trans (vectorBoundary_steady l _ _ _ v _)

theorem memberStarts_steady (late : Bool) (l : LaneId) (s : State) : Steady s (memberStarts late l s).1 := by
  rw [memberStarts]
  split
  · exact .refl s
  · split
    · exact .refl s
    · exact enterPlaying_steady l _ late true _ s

theorem expireTimer_steady (s : State) (r : Ring) : Steady s (expireTimer s r) := by cases r <;> exact ⟨rfl, rfl⟩

theorem runTimed_steady {e : TimedEvent} (h : runTimed e s = .next t) : Steady s t := by
  have same (h : finishState s = .next t) : Steady s t := (Steady.refl s).finishState h
  cases e with
  | claimTimeout l =>
    simp only [runTimed, execClaimTimeout] at h
    split at h
    · exact (claimTimesOut_steady l s).finish h
    · exact same h
  | groupDeadline g =>
    simp only [runTimed, execGroupDeadline] at h
    split at h
    · exact (groupMembers_steady memberTimesOut_steady g _ s).finish h
    · exact same h
  | groupStartTick g =>
    simp only [runTimed, execGroupStartTick] at h
    split at h
    · split at h
      · exact (groupMembers_steady (memberStarts_steady _) g _ s).finish h
      · cases h
    · exact same h
  | markDue l =>
    simp only [runTimed, execMarkDue] at h
    split at h
    · exact same h
    · exact (retire_frame l _ _ s).steady.finish h
  | burstStart l =>
    simp only [runTimed, execBurstStart] at h
    split at h
    · exact same h
    · split at h
      · cases h
      · exact (enterPlaying_steady l _ _ _ _ s).finish h
  | strobe l =>
    simp only [runTimed, execStrobe] at h
    split at h
    · exact same h
    · split at h
      · exact (setActive_frame s l _).steady.finishState h
      · exact same h
  | periodEnd l =>
    simp only [runTimed, execPeriodEnd] at h
    split at h
    · exact same h
    · split at h
      · split at h
        · exact (retire_frame l _ _ s).steady.finish h
        · exact (setContext_frame l _ _ s).steady.finishState h
        · split at h
          · cases h
          · exact (vectorBoundary_steady l _ _ _ _ s).finish h
      · exact same h
  | holdoffExpiry r =>
    simp only [runTimed, execHoldoffExpiry] at h
    split at h
    · exact (expireTimer_steady s r).finishState h
    · exact same h

/-! ### Every command -/

/-- The commands that look at the pins, reset the part or may take it out of ON or into it. -/
def movesQualifier : Instr → Bool
  | .disable | .reset | .powerOn | .resetPin | .rawLevelChange _ _ | .qualifierSample | .setupReadReturn _
  | .completionWriteError | .captureWriteError => true
  | _ => false

theorem exec_steady {c : Instr} (leaves : movesQualifier c = false) (h : exec c s = .next t) : Steady s t := by
  have same {u : State} (h : finishState u = .next t) (timebase : u.timebase = s.timebase)
      (qualifier : u.qualifier = s.qualifier) : Steady s t := Steady.finishState ⟨timebase, qualifier⟩ h
  cases c with
  | enable | start | submit | staleReturn =>
    simp only [exec, execEnable, execStart, execSubmit, execStaleReturn, refuseCommand] at h
    repeat' split at h
    all_goals exact same h rfl rfl
  | abort m =>
    simp only [exec, execAbort] at h
    split at h
    · have accepted : Steady s (abortWork m (acceptCommand 4 m s)).1 :=
        (abortWork_steady m (acceptCommand 4 m s)).after rfl rfl
      exact accepted.finish h
    · exact same h rfl rfl
  | acknowledgeCompletion | acknowledgeCapture =>
    simp only [exec, execAcknowledgeCompletion, execAcknowledgeCapture, moveCompletionHead, moveCaptureHead] at h
    repeat' split at h
    all_goals exact same h rfl rfl
  | unknownCommand | registerWrite =>
    simp only [exec, execUnknownCommand, execRegisterWrite, refuseCommand] at h
    split at h
    · exact same h rfl rfl
    · cases h
  | statusWrite | setupLoWrite | setupHiWrite => exact same h rfl rfl
  | hostPortTurn => exact same h rfl rfl
  | recordArrival l r => exact (fetchReturn_steady l _ s).finish h
  | fetchBusError l => exact (fetchReturn_steady l _ s).finish h
  | discardedFetchReturn l => exact (discardedReturn_steady l s).finishState h
  | loadReadReturn l k d => exact (loadReturn_steady l _ _ s).finish h
  | loadFault l k => exact (loadReturn_steady l _ _ s).finish h
  | withdrawnLoadReturn l k => exact (withdrawnReturn_steady l _ s).finish h
  | completionWriteDone => exact (completionDone_steady s).finish h
  | captureWriteDone => exact (captureDone_steady s).finishState h
  | claimTimeout l => exact runTimed_steady (e := .claimTimeout l) h
  | groupDeadline g => exact runTimed_steady (e := .groupDeadline g) h
  | groupStartTick g => exact runTimed_steady (e := .groupStartTick g) h
  | markDue l => exact runTimed_steady (e := .markDue l) h
  | burstStart l => exact runTimed_steady (e := .burstStart l) h
  | strobe l => exact runTimed_steady (e := .strobe l) h
  | periodEnd l => exact runTimed_steady (e := .periodEnd l) h
  | holdoffExpiry r => exact runTimed_steady (e := .holdoffExpiry r) h
  | disable | reset | powerOn | resetPin | rawLevelChange | qualifierSample | setupReadReturn | completionWriteError
  | captureWriteError => cases leaves

theorem timebase_of_finishState (h : finishState u = .next t) (same : u.timebase = s.timebase) :
    t.timebase = s.timebase := ((Steady.refl u).finishState h).timebase.trans same

theorem timebase_of_finish {e : Effect} (h : finish e = .next t) (same : e.1.timebase = s.timebase) :
    t.timebase = s.timebase := ((Steady.refl e.1).finish h).timebase.trans same

theorem setupReturn_timebase (reply : ReadReply 256) (s : State) : (setupReturn reply s).timebase = s.timebase := by
  rcases setupReturn_cases reply s with same | ⟨r, -, ⟨d, enters⟩ | ⟨code, -, -, failed⟩⟩
  · rw [same]
  · rw [enters]
    rfl
  · rw [failed]
    rfl

theorem exec_timebase {c : Instr} (h : exec c s = .next t) :
    t.timebase = if c = .reset ∨ c = .powerOn ∨ c = .resetPin then 0 else s.timebase := by
  by_cases moves : movesQualifier c = true
  · cases c with
    | reset | powerOn | resetPin =>
      rw [← Host.Outcome.next.inj h]
      rfl
    | disable =>
      simp only [exec, execDisable] at h
      split at h
      all_goals exact timebase_of_finishState h rfl
    | rawLevelChange level hold =>
      simp only [exec, execRawLevelChange] at h
      split at h
      · exact timebase_of_finish h (takeLook_timebase (setOutside level hold s))
      · exact timebase_of_finishState h rfl
    | qualifierSample =>
      simp only [exec, execQualifierSample] at h
      split at h
      · exact timebase_of_finish h (takeLook_timebase s)
      · exact timebase_of_finishState h rfl
    | setupReadReturn reply => exact timebase_of_finishState h (setupReturn_timebase reply s)
    | completionWriteError | captureWriteError =>
      simp only [exec, execCompletionWriteError, execCaptureWriteError] at h
      split at h
      all_goals exact timebase_of_finishState h rfl
    | _ => cases moves
  · have plain : ¬(c = .reset ∨ c = .powerOn ∨ c = .resetPin) := by
      rintro (rfl | rfl | rfl) <;> exact moves rfl
    rw [if_neg plain]
    exact (exec_steady (Bool.eq_false_iff.2 moves) h).timebase

/-- Settles O3. -/
theorem timebaseMovesByTicksAndResets : Obligations.TimebaseMovesByTicksAndResets := by
  refine ⟨fun c s t h => exec_timebase h, fun s queue none => ⟨_, step_of_no_event queue none, ?_⟩,
    fun s t queue some h => ?_⟩
  · exact BitVec.toNat_add s.timebase 1
  · obtain ⟨n, c, own, eq⟩ := step_of_event queue some
    have ofPart : ¬(c = .reset ∨ c = .powerOn ∨ c = .resetPin) := by
      rcases (mem_tickEvents_iff _ _).1 own with ⟨rfl, -⟩ | ⟨rfl, -⟩ | ⟨e, -, rfl⟩
      · simp
      · simp
      · cases e <;> simp [timedCommand]
    rw [exec_timebase (eq.symm.trans h), if_neg ofPart]

end

end Sys2Proof.Machine
end

section
/-! Entry to ON and the device FAULT (R113, R127 to R129, R161, R162, R172, R182). -/

namespace Sys2Proof.Machine

section
variable {s t u : State}

/-! ### Qualified levels and the condition of a trip set (R128) -/

theorem pinBit_qualifiedLevels (q : Qualifier) (n : PinId) : pinBit (qualifiedLevels q) n = (q.pin n).level :=
  pinBit_pinsWhere _ n.isLt

theorem and_eq_zero_iff_pins (x m : Pins) :
    x &&& m = 0 ↔ ∀ n : PinId, m.getLsbD n = true → x.getLsbD n = false := by
  constructor
  · intro none n inMask
    have bit : (x &&& m).getLsbD n = false := by rw [none]; exact BitVec.getLsbD_zero
    rwa [BitVec.getLsbD_and, inMask, Bool.and_true] at bit
  · intro none
    refine BitVec.eq_of_getLsbD_eq fun i hi => ?_
    cases inMask : m.getLsbD i with
    | false => simp [inMask]
    | true => simp [none ⟨i, hi⟩ inMask]

theorem xor_and_eq_zero_iff_pins (x y m : Pins) :
    (x ^^^ y) &&& m = 0 ↔ ∀ n : PinId, m.getLsbD n = true → x.getLsbD n = y.getLsbD n := by
  rw [and_eq_zero_iff_pins]
  exact forall_congr' fun n => imp_congr_right fun _ => by simp

theorem TripSet.condition_iff (x : TripSet) (q : Qualifier) :
    x.condition (qualifiedLevels q) = true
      ↔ ∀ n : PinId, x.pinMask.getLsbD n = true → (q.pin n).level = x.pattern.getLsbD n := by
  rw [TripSet.condition, beq_iff_eq, xor_and_eq_zero_iff_pins]
  exact forall_congr' fun n => imp_congr_right fun _ => by rw [← pinBit_qualifiedLevels, pinBit]

theorem TripSet.not_condition_iff (x : TripSet) (q : Qualifier) :
    x.condition (qualifiedLevels q) = false
      ↔ ∃ n : PinId, x.pinMask.getLsbD n = true ∧ (q.pin n).level ≠ x.pattern.getLsbD n := by
  rw [← Bool.not_eq_true, TripSet.condition_iff]
  push Not
  rfl

/-! ### The fields of a pin entry of the setup block (R182) -/

theorem extractLsb'_eq_iff {w : Nat} (x : BitVec w) (start n k : Nat) (small : k < 2 ^ n) :
    x.extractLsb' start n = BitVec.ofNat n k ↔ x.toNat / 2 ^ start % 2 ^ n = k := by
  rw [← BitVec.toNat_inj, BitVec.extractLsb'_toNat, Nat.shiftRight_eq_div_pow, BitVec.toNat_ofNat,
    Nat.mod_eq_of_lt small]

theorem pinWordSafe_eq (w : Half) :
    pinWordSafe w = if w.toNat % 4 = 0 then .low else if w.toNat % 4 = 1 then .high else .float := by
  have low := extractLsb'_eq_iff w 0 2 0 (by decide)
  have high := extractLsb'_eq_iff w 0 2 1 (by decide)
  simp only [Nat.pow_zero, Nat.div_one] at low high
  exact if_congr low rfl (if_congr high rfl rfl)

theorem pinWordCount_eq (w : Half) : pinWordCount w = w.toNat / 4 % 16 := by
  simp [pinWordCount, BitVec.extractLsb'_toNat, Nat.shiftRight_eq_div_pow]

theorem pinWordWatch_eq (w : Half) :
    pinWordWatch w = if w.toNat / 64 % 4 = 0 then .none else if w.toNat / 64 % 4 = 1 then .rise
      else if w.toNat / 64 % 4 = 2 then .fall else .both :=
  if_congr (extractLsb'_eq_iff w 6 2 0 (by decide)) rfl (if_congr (extractLsb'_eq_iff w 6 2 1 (by decide)) rfl
    (if_congr (extractLsb'_eq_iff w 6 2 2 (by decide)) rfl rfl))

/-! ### Entry to ON (R172) -/

theorem enterOn_pin (d : Bytes 256) (s : State) (n : PinId) : (enterOn d s).pin n = pinEntryOn d n := by
  rw [State.pin_eq]
  exact mapTable_get _ s.pins n

theorem enterOn_lane (d : Bytes 256) (s : State) (l : LaneId) : (enterOn d s).lane l = laneEntry d l :=
  mapTable_get _ s.lanes l

theorem enterOn_level (d : Bytes 256) (s : State) (n : PinId) :
    (enterOn d s).qualifier.pin n = ⟨rawLevel (enterOn d s) n, 0⟩ :=
  (Qualifier.pin_eq _ n).trans (mapTable_get _ s.qualifier.pins n)

theorem enterOn_trip (d : Bytes 256) (s : State) (i : SetId) :
    (enterOn d s).trip i = (tripEntry d i).enter (qualifiedLevels (enterOn d s).qualifier) := mapTable_get _ s.trips i

/-- After entry to ON no lane has a record to read, no entry a load, and no writer a record. -/
theorem portQuiet_enterOn (d : Bytes 256) (s : State) : PortQuiet (enterOn d s) := by
  intro r _
  cases r with
  | fetch =>
    rw [presents_fetch_eq_false_iff]
    intro l
    rw [eligible, enterOn_lane]
    simp [LaneState.eligible, laneEntry, LaneState.reset]
  | loader l =>
    rw [presents, enterOn_lane]
    simp [laneEntry, LaneState.reset]
  | completion | capture => simp [presents, RingWriter.ready, enterOn, enterTrips, enterQualifier, loadSetup]

theorem exec_setupReadReturn_of_passing {d : Bytes 256} {r : SetupRead} (configuring : s.window.device = .configuring)
    (reading : s.window.setupRead = some r) (passes : setupCheck r.address (.data d) = 0) :
    exec (.setupReadReturn (.data d)) s = .next (enterOn d (returnOp r.op s)) := by
  have enters : setupReturn (.data d) s = enterOn d (returnOp r.op s) := by
    simp [setupReturn, configuring, reading, passes]
  exact (congrArg finishState enters).trans (finishState_of_portQuiet (portQuiet_enterOn _ _))

/-- An enabled set arms on entry to ON exactly when a pin of its mask differs from its pattern (R129). -/
theorem enterOn_armed_iff (d : Bytes 256) (s : State) (i : SetId) :
    ((enterOn d s).trip i).armed = true ↔ (setupTripEnable i d == 1) = true
      ∧ ∃ n : PinId, (setupTripPins i d).getLsbD n = true
        ∧ rawLevel (enterOn d s) n ≠ (setupTripPattern i d).getLsbD n := by
  rw [enterOn_trip, TripSet.enter, Bool.and_eq_true, Bool.not_eq_true', TripSet.not_condition_iff]
  refine and_congr Iff.rfl (exists_congr fun n => and_congr Iff.rfl ?_)
  rw [enterOn_level]
  rfl

/-- Settles O11. -/
theorem entryToOnSetsEveryBlock : Obligations.EntryToOnSetsEveryBlock := by
  intro d r s configuring reading passes
  refine ⟨_, exec_setupReadReturn_of_passing configuring reading passes, rfl, rfl, rfl, fun l => enterOn_lane d _ l, rfl,
    fun n => ⟨?_, ?_⟩, rfl, fun g => mapTable_get _ s.groups g, rfl, rfl, fun n => enterOn_level d _ n, rfl, rfl, rfl,
    fun i => ?_, rfl, rfl, rfl, rfl, rfl, rfl, rfl, rfl⟩
  · rw [enterOn_pin, pinEntryOn, pinWordSafe_eq, pinWordCount_eq, pinWordWatch_eq]
    rfl
  · rw [enterOn_pin]
    exact mapTable_get _ s.capture.pins n
  · have offset : setupTripOffset i + 6 = 118 + 16 * i.val := by
      rw [setupTripOffset]
      omega
    have pattern : setupTripPattern i d = field 48 (118 + 16 * i.val) d := by rw [setupTripPattern, offset]
    have lanes := setupTripLaneByte_eq i d
    have enable := setupTripEnable_eq i d
    have armed := enterOn_armed_iff d (returnOp r.op s) i
    rw [pattern, enable] at armed
    refine ⟨?_, ?_, ?_, ?_, ?_, armed⟩
    all_goals rw [enterOn_trip]
    · rfl
    · exact pattern
    · exact congrArg (BitVec.extractLsb' 0 4) lanes
    · exact congrArg (· == 1) enable
    · rfl

/-! ### The device FAULT (R161, R162) -/

theorem awaitsNothing_deviceFault (cause : FaultCause) (setup : s.window.setupRead = none) :
    AwaitsNothing (deviceFault cause s) where
  off := nofun
  setupRead := setup
  fetch l := congrArg LaneState.fetch (mapTable_get _ s.lanes l)
  staging l := congrArg LaneState.staging (mapTable_get _ s.lanes l)
  completion := rfl
  capture := rfl

/-- Settles O14. -/
theorem writeErrorTakesDeviceToFault : Obligations.WriteErrorTakesDeviceToFault := by
  intro s op c cause empty sound error
  obtain ⟨-, -, -, reads, -, -⟩ := sound
  have busy : s.completionRing.writing ≠ none ∨ s.captureRing.writing ≠ none := by
    rcases error with ⟨-, -, writing⟩ | ⟨-, -, writing⟩
    · exact .inl (by simp [writing])
    · exact .inr (by simp [writing])
  have setup : s.window.setupRead = none := by simpa [empty.on_of_writing busy] using reads
  have awaits := awaitsNothing_deviceFault (s := returnOp op s) cause setup
  have answers : exec c s = .next (deviceFault cause (returnOp op s)) := by
    refine Eq.trans ?_ (finishState_of_not_on awaits.off)
    rcases error with ⟨rfl, rfl, writing⟩ | ⟨rfl, rfl, writing⟩
    · simp only [exec, execCompletionWriteError, writing]
    · simp only [exec, execCaptureWriteError, writing]
  exact ⟨_, answers, { workDropped_dropWork (returnOp op s) with }, rfl, rfl, rfl, rfl, rfl, rfl, awaits.repliesDropped⟩

end

end Sys2Proof.Machine
end

section
/-! The Host Port's operations and what the link returns (R5, R6, R21, R22, R123, R134, R141 to R149, R151, R158, R159,
R163, R164). -/

namespace Sys2Proof.Machine

section
variable {s t u : State}

/-! ### Who presents (R33, R123, R144, R158) -/

theorem RunState.fetches_iff (x : RunState) : x.fetches = true ↔ x = .run ∨ x = .tripped := by cases x <;> decide

theorem LaneState.room_iff (x : LaneState) :
    x.room = true ↔ x.staging.length + (if x.reserved then 1 else 0) < 4 ∧ x.skip = none ∧ x.outbox = [] := by
  simp only [LaneState.room, Bool.and_eq_true, decide_eq_true_eq, Option.isNone_iff_eq_none, List.isEmpty_iff, and_assoc]
  rfl

theorem LaneState.eligible_iff (x : LaneState) :
    x.eligible = true ↔ (x.run = .run ∨ x.run = .tripped) ∧ x.consumer ≠ x.tail ∧ x.fetch = .none
      ∧ x.staging.length + (if x.reserved then 1 else 0) < 4 ∧ x.skip = none ∧ x.outbox = [] := by
  rw [← room_iff, ← RunState.fetches_iff]
  simp [LaneState.eligible, and_assoc]

theorem State.on_iff (s : State) : s.on = true ↔ s.window.device = .on := by simp [State.on]

theorem Entry.wantsRead_iff (e : Entry) :
    e.wantsRead = true ↔ e.state = .loading ∧ e.status = none ∧ e.reading = none ∧ e.issued < e.blocks.length := by
  simp [Entry.wantsRead, and_assoc]

theorem RingWriter.ready_iff (on empty : Bool) (r : RingWriter) :
    r.ready on empty = true ↔ on = true ∧ empty = false ∧ (r.producer + 1) % r.entries ≠ r.head ∧ r.writing = none := by
  simp [RingWriter.ready, RingWriter.full, and_assoc]

/-! ### The turns of the requesters (R32, R33, R123, R145, R158) -/

theorem fetchOrder_eq : ∀ last : LaneId, fetchOrder last = (List.finRange 4).map (last + 1 + ·) := by decide

theorem finRange_split : ∀ k : Fin 4, List.finRange 4 = (List.finRange 4).filter (· < k) ++ k :: (List.finRange 4).filter (k < ·) := by
  decide

theorem chooseLane_of_first {k : Fin 4} (can : eligible s (s.lastLane + 1 + k) = true)
    (others : ∀ j < k, eligible s (s.lastLane + 1 + j) = false) : chooseLane s = some (s.lastLane + 1 + k) := by
  rw [chooseLane, fetchOrder_eq, List.find?_eq_some_iff_append]
  refine ⟨can, _, _, (congrArg _ (finRange_split k)).trans List.map_append, fun l hl => ?_⟩
  obtain ⟨j, hj, rfl⟩ := List.mem_map.1 hl
  simp [others j (by simpa using hj)]

theorem startOldestRead_of_first (op : OpId) {older : List Entry} (others : ∀ x ∈ older, x.wantsRead = false) {e : Entry}
    (wants : e.wantsRead = true) (younger : List Entry) :
    startOldestRead op (older ++ e :: younger) = (some e, older ++ e.startRead op :: younger) := by
  induction older with
  | nil => simp [startOldestRead, wants]
  | cons x older ih =>
    rw [List.forall_mem_cons] at others
    simp [startOldestRead, others.1, ih others.2]

/-- Settles O19. -/
theorem requestersIssueTheirOperations : Obligations.RequestersIssueTheirOperations := by
  refine ⟨fun s l => ?_, fun s l k own can others => ?_, fun s l older younger e staged wants others => ?_,
    fun s i rest items => ?_, fun s c rest records => ?_, fun s => ⟨?_, fun l => ?_, ?_, ?_⟩⟩
  · rw [eligible, Bool.and_eq_true, State.on_iff, LaneState.eligible_iff]
  · subst own
    have turn : issueTurn .fetch s =
        { issueFetch (s.lastLane + 1 + k) s with
          port := { (issueFetch (s.lastLane + 1 + k) s).port with lastServed := .fetch } } := by
      simp only [issueTurn, chooseLane_of_first can others]
    refine ⟨_, turn, rfl, fun j => ?_⟩
    refine (setTable_get s.lanes (s.lastLane + 1 + k) j _).trans (if_congr eq_comm rfl rfl)
  · have oldest : startOldestRead s.port.nextOp (s.lane l).staging
        = (some e, older ++ e.startRead s.port.nextOp :: younger) := by
      rw [staged]
      exact startOldestRead_of_first _ (fun x hx => Bool.eq_false_iff.2 fun h => others x hx ((Entry.wantsRead_iff x).1 h))
        ((Entry.wantsRead_iff e).2 wants) younger
    have turn : issueTurn (.loader l) s = { issueLoad l s with
        port := { (issueLoad l s).port with lastServed := .loader l } } := rfl
    rw [issueLoad] at turn
    simp only [oldest] at turn
    refine ⟨_, turn, rfl, fun j => ?_⟩
    exact (setTable_get s.lanes l j _).trans (if_congr eq_comm rfl rfl)
  · simp only [issueTurn, issueCompletion, items]
    rfl
  · simp only [issueTurn, issueCapture, records]
    rfl
  · rw [← Bool.not_eq_false, presents_fetch_eq_false_iff]
    simp
  · rw [presents, Bool.and_eq_true, State.on_iff, List.any_eq_true]
    exact and_congr Iff.rfl (exists_congr fun e => and_congr Iff.rfl (Entry.wantsRead_iff e))
  · rw [presents, RingWriter.ready_iff, State.on_iff, List.isEmpty_eq_false_iff]
    exact ⟨fun ⟨on, held, rest⟩ => ⟨⟨on, rest⟩, held⟩, fun ⟨⟨on, rest⟩, held⟩ => ⟨on, held, rest⟩⟩
  · rw [presents, RingWriter.ready_iff, State.on_iff, List.isEmpty_eq_false_iff]
    exact ⟨fun ⟨on, held, rest⟩ => ⟨⟨on, rest⟩, held⟩, fun ⟨⟨on, rest⟩, held⟩ => ⟨on, held, rest⟩⟩

/-! ### Fetch failures and dropped returns (R149, R151, R163) -/

theorem fetchReturn_of_live {l : LaneId} {op : OpId} (live : (s.lane l).fetch = .live op) (reply : ReadReply 64) :
    fetchReturn l reply s = match reply with
      | .data r => recordArrives l r (returnOp op s)
      | .busError => fetchFails l (returnOp op s) := by
  rw [fetchReturn, live] <;> rfl

/-- A discarded read that returns: it is gone, off the bus, and dropped (R151). -/
def readDropped (l : LaneId) (op : OpId) (s : State) : State :=
  returnOp op (s.setLane l { s.lane l with fetch := .none })

theorem fetchReturn_of_discarded {l : LaneId} {op : OpId} (discarded : (s.lane l).fetch = .discarded op)
    (reply : ReadReply 64) : fetchReturn l reply s = (readDropped l op s, []) := by
  rw [fetchReturn, discarded]
  rfl

theorem discardedReturn_of_discarded {l : LaneId} {op : OpId} (discarded : (s.lane l).fetch = .discarded op) :
    discardedReturn l s = readDropped l op s := by
  rw [discardedReturn, discarded]
  rfl

theorem setLane_lane_eq (s : State) (l k : LaneId) (x : LaneState) :
    (s.setLane l x).lane k = if k = l then x else s.lane k := by
  rw [State.lane_setLane]
  exact if_congr eq_comm rfl rfl

theorem awaited_eq_false (setup : ∀ r, s.window.setupRead = some r → r.op ≠ op)
    (lanes : ∀ l, (s.lane l).fetch ≠ .live op ∧ (s.lane l).fetch ≠ .discarded op
      ∧ ∀ e ∈ (s.lane l).staging, e.reading ≠ some op)
    (completion : s.completionRing.writing ≠ some op) (capture : s.captureRing.writing ≠ some op) :
    awaited op s = false := by
  have setup' : ¬ s.window.setupRead.map SetupRead.op = some op := by
    rw [Option.map_eq_some_iff]
    rintro ⟨r, reading, same⟩
    exact setup r reading same
  have lanes' (l : LaneId) : (s.lane l).awaits op = false := by
    obtain ⟨live, discarded, staged⟩ := lanes l
    simpa [LaneState.awaits, live, discarded] using staged
  simp [awaited, setup', lanes', completion, capture]

/-- Settles O23. -/
theorem fetchFailuresAndDroppedReturns : Obligations.FetchFailuresAndDroppedReturns := by
  refine ⟨fun l op s live => ?_, fun l op c s discarded command => ?_,
    fun op s quiet setup lanes completion capture => ?_⟩
  · refine ⟨_, _, congrArg finish (fetchReturn_of_live live .busError), rfl, rfl, fun k => ?_⟩
    exact setLane_lane_eq (returnOp op s) l k _
  · refine ⟨readDropped l op s, hostPort (readDropped l op s), ?_, hostPort_frame _, portQuiet_hostPort _, rfl,
      fun k => setLane_lane_eq s l k _⟩
    have dropped (reply : ReadReply 64) : finish (fetchReturn l reply s) = .next (hostPort (readDropped l op s)) := by
      rw [fetchReturn_of_discarded discarded, finish, settle_nil]
    rcases command with rfl | rfl | ⟨r, rfl⟩
    · exact congrArg finishState (discardedReturn_of_discarded discarded)
    · exact dropped .busError
    · exact dropped (.data r)
  · have free := awaited_eq_false setup lanes completion capture
    have still : PortQuiet (returnOp op s) := by
      intro r mem
      rw [← quiet r mem]
      cases r <;> rfl
    simp only [exec, execStaleReturn, free, Bool.false_eq_true, if_false]
    exact finishState_of_portQuiet still

/-! ### Writes that complete (R123, R134, R156, R159, R164) -/

theorem RingInterrupt.written_eq (h : Half) (now : Tick) (fill : Nat) (i : RingInterrupt) :
    i.written h now fill = { i with
      timer := if fill = 0 ∧ h ≠ 0 then some (now + 100 * h.setWidth 48) else i.timer } := by
  rw [RingInterrupt.written, holdoffFrom]
  split
  · next restarts => rw [if_neg restarts.2, mul_comm, Config.ticksPerMicrosecond]; rfl
  · rfl

theorem completionDone_of_head {op : OpId} {i : PostItem} {rest : List PostItem}
    (writing : s.completionRing.writing = some op) (items : s.post.items = i :: rest) :
    completionDone s = entryFreed i.source (headWritten op rest s) := by
  simp only [completionDone, writing, items]
  rfl

theorem headWritten_eq (op : OpId) (rest : List PostItem) (s : State) :
    headWritten op rest s = { s with
      port := { s.port with bus := s.port.bus.filter fun o => o.id != op }
      post := { s.post with items := rest }
      completionRing := s.completionRing.advance
      interrupt := { s.interrupt with completion := { s.interrupt.completion with
        timer := if s.completionRing.fill = 0 ∧ s.interrupt.holdoff ≠ 0 then
            some (s.timebase + 100 * s.interrupt.holdoff.setWidth 48)
          else s.interrupt.completion.timer } } } := by
  rw [headWritten, completionWritten, RingInterrupt.written_eq]
  rfl

theorem captureDone_of_writing {op : OpId} (writing : s.captureRing.writing = some op) :
    captureDone s = { s with
      port := { s.port with bus := s.port.bus.filter fun o => o.id != op }
      capture := { s.capture with fifo := s.capture.fifo.drop 1 }
      captureRing := s.captureRing.advance
      interrupt := { s.interrupt with capture := { s.interrupt.capture with
        timer := if s.captureRing.fill = 0 ∧ s.interrupt.holdoff ≠ 0 then
            some (s.timebase + 100 * s.interrupt.holdoff.setWidth 48)
          else s.interrupt.capture.timer } } } := by
  simp only [captureDone, writing, RingInterrupt.written_eq, List.drop_one]
  rfl

/-- Settles O25. -/
theorem writeDoneAdvancesRing : Obligations.WriteDoneAdvancesRing := by
  refine ⟨fun s op i rest writing items => ?_, fun s op writing => ?_⟩
  · have done : exec .completionWriteDone s = finish (entryFreed i.source (headWritten op rest s)) :=
      congrArg finish (completionDone_of_head writing items)
    have alone (v : State) : finish (v, []) = .next (hostPort v) := by rw [finish, settle_nil]
    intro r p v
    have head : headWritten op rest s = v := headWritten_eq op rest s
    rw [head] at done
    refine ⟨fun general nobody => ?_, fun port ports general waiting => ?_, fun set trip absent => ?_,
      fun set c trip present => ?_⟩
    · have idle : entryFreed i.source v = (v, []) := by
        rw [general, entryFreed, grantOldestPoster]
        simp only [v, nobody]
      rw [done, idle, alone]
    · have granted : entryFreed i.source v = grantPort port { v with post := { v.post with waiting := ports } } := by
        rw [general, entryFreed, grantOldestPoster]
        simp only [v, waiting]
      rw [done, granted, finish]
    · have carry : (v.trip set).carry = none := absent
      rw [done, trip, entryFreed, placeCarry_of_none carry, alone]
    · have carry : (v.trip set).carry = some c := present
      refine ⟨placeCarry set v, ?_, ?_, fun j => ?_⟩
      · rw [done, trip, entryFreed, alone]
      · rw [placeCarry_of_some carry]
        rfl
      · rw [placeCarry_of_some carry, postRecord_trip, State.trip_setTrip]
        exact if_congr eq_comm rfl rfl
  · refine ⟨_, congrArg finishState (captureDone_of_writing writing), portQuiet_hostPort _, hostPort_frame _⟩

/-! ### A record arrives (R6, R21, R22, R146) -/

/-- Lane `l` after its live read has returned: C advances, and the read and the reserved place are gone (R146). -/
def LaneState.readBack (x : LaneState) : LaneState :=
  { x with consumer := (x.consumer + 1) % x.entries, fetch := .none, reserved := false }

theorem recordArrives_eq (l : LaneId) (r : Bytes 64) (s : State) :
    recordArrives l r s = if recordKind r = kindRetune then arriveRetune l r (s.setLane l (s.lane l).readBack)
      else stageRecord l (treatRecord (s.lane l).run r) (s.setLane l (s.lane l).readBack) := rfl

theorem pushOutbox_eq (l : LaneId) (c : Completion) (s : State) :
    pushOutbox l c s = (s.setLane l { s.lane l with outbox := (s.lane l).outbox ++ [c] },
      if (s.lane l).outbox = [] then [.ask (.retune l)] else []) := by
  simp only [pushOutbox, tasksIf, List.isEmpty_iff]

/-- The status of a record that fails on arrival, if it does, and the state of the entry it becomes (R6). -/
theorem treatRecord_eq {x : RunState} (fetches : x = .run ∨ x = .tripped) (r : Bytes 64) :
    treatRecord x r =
      if x = .tripped ∧ recordKind r ≠ 5 then arrivedEntry r .failed (some .tripDiscard)
      else if recordValid r = false then arrivedEntry r .failed (some .badRecord)
      else if recordKind r = 1 then arrivedEntry r .waitBlocks none
      else arrivedEntry r .ready none := by
  rcases fetches with rfl | rfl
  · have running : ¬(RunState.run = .tripped ∧ recordKind r ≠ 5) := fun h => by cases h.1
    rw [treatRecord, if_pos rfl, if_neg running]
    cases recordValid r <;> rfl
  · have tripped : ¬ RunState.tripped = .run := nofun
    rw [treatRecord, if_neg tripped]
    by_cases resume : recordKind r = 5
    · have kept : ¬(RunState.tripped = .tripped ∧ recordKind r ≠ 5) := fun h => h.2 resume
      have plain : recordKind r ≠ 1 := by
        rw [resume]
        decide
      rw [if_pos (c := recordKind r = kindResume) resume, if_neg kept, if_neg plain]
      cases recordValid r <;> rfl
    · have gone : RunState.tripped = .tripped ∧ recordKind r ≠ 5 := ⟨rfl, resume⟩
      rw [if_neg (c := recordKind r = kindResume) resume, if_pos gone]

/-- Lane `l` after a RETUNE has arrived (R6, R21, R22). -/
def LaneState.retuneArrived (l : LaneId) (r : Bytes 64) (now : Tick) (x : LaneState) : LaneState :=
  if x.run = .tripped then
    { x.readBack with outbox := x.outbox ++ [retuneCompletion l (recordTag r) now now .tripDiscard] }
  else if recordValid r = true then
    { x.readBack with shadow := some (shadowOf r now), outbox := x.outbox ++ x.shadowCompletion l .superseded now }
  else { x.readBack with outbox := x.outbox ++ [retuneCompletion l (recordTag r) now now .badRecord] }

theorem LaneState.shadowCompletion_ne_nil_iff (l : LaneId) (w : Status) (now : Tick) (x : LaneState) :
    x.shadowCompletion l w now ≠ [] ↔ x.shadow.isSome = true := by
  rw [shadowCompletion]
  cases x.shadow <;> simp

theorem recordArrives_of_retune {l : LaneId} {r : Bytes 64} (retune : recordKind r = 2)
    (fetches : (s.lane l).run = .run ∨ (s.lane l).run = .tripped) :
    recordArrives l r s = (s.setLane l ((s.lane l).retuneArrived l r s.timebase),
      if ((s.lane l).retuneArrived l r s.timebase).outbox ≠ [] ∧ (s.lane l).outbox = [] then [.ask (.retune l)]
      else []) := by
  have lane (x : LaneState) : (s.setLane l x).lane l = x := by rw [State.lane_setLane, if_pos rfl]
  have now (x : LaneState) : (s.setLane l x).timebase = s.timebase := rfl
  rw [recordArrives_eq, if_pos (c := recordKind r = kindRetune) retune, arriveRetune]
  rcases fetches with running | tripped
  · have plain : ¬ (s.lane l).run = .tripped := by simp [running]
    by_cases valid : recordValid r = true
    · have arrived : (s.lane l).retuneArrived l r s.timebase = { (s.lane l).readBack with
          shadow := some (shadowOf r s.timebase)
          outbox := (s.lane l).outbox ++ (s.lane l).shadowCompletion l .superseded s.timebase } := by
        rw [LaneState.retuneArrived, if_neg plain, if_pos valid]
      simp only [arrived, lane, LaneState.readBack, running, valid, if_true, now, depositShadow, resolveShadow_eq, mapLane,
        State.setLane_setLane]
      refine Prod.ext rfl (if_congr ?_ rfl rfl)
      have pending := (s.lane l).shadowCompletion_ne_nil_iff l .superseded s.timebase
      rw [ne_eq, List.append_eq_nil_iff, not_and_or]
      constructor
      · exact fun h => ⟨.inr (pending.2 h.1), h.2⟩
      · exact fun h => ⟨pending.1 (h.1.resolve_left (· h.2)), h.2⟩
    · have arrived : (s.lane l).retuneArrived l r s.timebase = { (s.lane l).readBack with
          outbox := (s.lane l).outbox ++ [retuneCompletion l (recordTag r) s.timebase s.timebase .badRecord] } := by
        rw [LaneState.retuneArrived, if_neg plain, if_neg valid]
      simp [arrived, lane, LaneState.readBack, running, valid, pushOutbox_eq, State.setLane_setLane]
  · have arrived : (s.lane l).retuneArrived l r s.timebase = { (s.lane l).readBack with
        outbox := (s.lane l).outbox ++ [retuneCompletion l (recordTag r) s.timebase s.timebase .tripDiscard] } := by
      rw [LaneState.retuneArrived, if_pos tripped]
    simp [arrived, lane, LaneState.readBack, tripped, pushOutbox_eq, State.setLane_setLane]

theorem hasRequest_eq_false_iff (l : LaneId) (s : State) :
    hasRequest l s = false ↔ ∀ q ∈ s.alloc.queue, q.lane ≠ l := by
  rw [← Bool.not_eq_true, hasRequest_iff]
  push Not
  rfl

/-- The state after a record other than a RETUNE has joined the staging queue of lane `l` (R6, R146). -/
def recordStaged (l : LaneId) (r : Bytes 64) (s : State) : State :=
  s.setLane l { (s.lane l).readBack with staging := (s.lane l).staging ++ [treatRecord (s.lane l).run r] }

theorem recordArrives_of_other {l : LaneId} {r : Bytes 64} (other : recordKind r ≠ 2) (s : State) :
    recordArrives l r s =
      if (treatRecord (s.lane l).run r).state = .waitBlocks then
        (placeRequest l (recordStaged l r s), tasksIf (!hasRequest l s) [.look] ++ [.take l])
      else (recordStaged l r s, [.take l]) := by
  have lane (x : LaneState) : (s.setLane l x).lane l = x := by rw [State.lane_setLane, if_pos rfl]
  rw [recordArrives_eq, if_neg (c := recordKind r = kindRetune) other, stageRecord]
  simp only [State.setStaging_eq, lane, State.setLane_setLane]
  rfl

/-- A record that waits for blocks in a lane with no request outstanding places the request of the oldest entry that
waits (R7). -/
theorem recordArrives_of_waiting {l : LaneId} {r : Bytes 64} (other : recordKind r ≠ 2)
    (waits : (treatRecord (s.lane l).run r).state = .waitBlocks) (free : ∀ q ∈ s.alloc.queue, q.lane ≠ l) :
    ∃ w, ((s.lane l).staging ++ [treatRecord (s.lane l).run r]).find? (fun z => z.state == .waitBlocks) = some w
      ∧ recordArrives l r s = ({ recordStaged l r s with alloc := { s.alloc with
          queue := s.alloc.queue ++ [⟨l, (burstOf w.record).blockNeed⟩] } }, [.look, .take l]) := by
  have found : (((s.lane l).staging ++ [treatRecord (s.lane l).run r]).find? fun z => z.state == .waitBlocks).isSome
      = true := by
    rw [List.find?_isSome]
    exact ⟨treatRecord (s.lane l).run r, by simp, by simp [waits]⟩
  obtain ⟨w, oldest⟩ := Option.isSome_iff_exists.1 found
  have staged : ((recordStaged l r s).lane l).staging = (s.lane l).staging ++ [treatRecord (s.lane l).run r] := by
    rw [recordStaged, State.lane_setLane, if_pos rfl]
  have absent : hasRequest l s = false := (hasRequest_eq_false_iff l s).2 free
  have absent' : ¬ hasRequest l (recordStaged l r s) = true := Bool.eq_false_iff.1 absent
  refine ⟨w, oldest, ?_⟩
  rw [recordArrives_of_other other, if_pos waits, absent, placeRequest, if_neg absent', oldestWaiting, staged, oldest]
  rfl

theorem recordArrives_of_not_asking {l : LaneId} {r : Bytes 64} (other : recordKind r ≠ 2)
    (still : ¬((treatRecord (s.lane l).run r).state = .waitBlocks ∧ ∀ q ∈ s.alloc.queue, q.lane ≠ l)) :
    recordArrives l r s = (recordStaged l r s, [.take l]) := by
  rw [recordArrives_of_other other]
  by_cases waits : (treatRecord (s.lane l).run r).state = .waitBlocks
  · have asked : hasRequest l s = true := by
      rw [← Bool.not_eq_false, hasRequest_eq_false_iff]
      exact fun free => still ⟨waits, free⟩
    have asked' : hasRequest l (recordStaged l r s) = true := asked
    rw [if_pos waits, asked, placeRequest, if_pos asked']
    rfl
  · rw [if_neg waits]

/-- Settles O21. -/
theorem recordArrivesByRunState : Obligations.RecordArrivesByRunState := by
  intro l r op s live fetches x y entry discard
  have answers : exec (.recordArrival l r) s = finish (recordArrives l r (returnOp op s)) :=
    congrArg finish (fetchReturn_of_live live (.data r))
  refine ⟨(recordArrives l r (returnOp op s)).1, (recordArrives l r (returnOp op s)).2, answers, ?_⟩
  by_cases retune : recordKind r = 2
  · rw [recordArrives_of_retune (s := returnOp op s) retune fetches]
    have lane (k : LaneId) := setLane_lane_eq (returnOp op s) l k ((s.lane l).retuneArrived l r s.timebase)
    have own := (lane l).trans (if_pos rfl)
    refine ⟨rfl, rfl, fun k other => (lane k).trans (if_neg other), fun _ => ⟨rfl, own, ?_⟩, fun other => absurd retune other⟩
    exact (congrArg (fun z : LaneState => if z.outbox ≠ [] ∧ x.outbox = [] then [Task.ask (.retune l)] else []) own).symm
  · have treated : treatRecord x.run r = _ := treatRecord_eq fetches r
    have lane (k : LaneId) : (recordStaged l r (returnOp op s)).lane k = _ := setLane_lane_eq (returnOp op s) l k _
    by_cases asks : (treatRecord x.run r).state = .waitBlocks ∧ ∀ q ∈ s.alloc.queue, q.lane ≠ l
    · obtain ⟨w, oldest, arrives⟩ := recordArrives_of_waiting (s := returnOp op s) retune asks.1 asks.2
      rw [arrives]
      refine ⟨rfl, rfl, fun k other => (lane k).trans (if_neg other), fun kind => absurd kind retune, fun _ => ?_⟩
      intro e
      have same : e = treatRecord x.run r := treated.symm
      clear_value e
      subst same
      rw [if_pos asks]
      exact ⟨(lane l).trans (if_pos rfl), w, oldest, rfl, rfl⟩
    · rw [recordArrives_of_not_asking (s := returnOp op s) retune asks]
      refine ⟨rfl, rfl, fun k other => (lane k).trans (if_neg other), fun kind => absurd kind retune, fun _ => ?_⟩
      intro e
      have same : e = treatRecord x.run r := treated.symm
      clear_value e
      subst same
      rw [if_neg asks]
      exact ⟨(lane l).trans (if_pos rfl), rfl, rfl⟩

end

end Sys2Proof.Machine
end

section
/-! Load reads (R27, R32 to R36, R179): what a return makes of a LOADING entry, and what it writes to the store. -/

namespace Sys2Proof.Machine

section
variable {s t u : State}

/-! ### A vector's attributes (R34, R179) -/

theorem getLsbD_eq_decide_div {w : Nat} (x : BitVec w) (k : Nat) : x.getLsbD k = decide (x.toNat / 2 ^ k % 2 = 1) := by
  rw [BitVec.getLsbD, Nat.testBit_eq_decide_div_mod_eq]

theorem Vec.hold_eq (v : Vec) : v.hold = v.attributes.toNat % 2 ^ 10 := by
  simp [Vec.hold]

theorem Vec.valid_iff (g : Half) (v : Vec) :
    v.valid g = true ↔ v.attributes.toNat < 2 ^ 13 ∧ (v.attributes.toNat / 2 ^ 11 % 2 = 1 →
      v.attributes.toNat / 2 ^ 10 % 2 = 0 ∧ v.attributes.toNat % 2 ^ 10 = 0 ∧ g ≠ 0) := by
  have unused := extractLsb'_high_eq_zero_iff 13 19 v.attributes
  have strobe : v.attributes.toNat / 2 ^ 10 % 2 = 0 ↔ ¬ v.attributes.toNat / 2 ^ 10 % 2 = 1 := by omega
  simp only [Vec.valid, Vec.gate, Vec.strobe, Vec.hold_eq, getLsbD_eq_decide_div, Bool.and_eq_true, beq_iff_eq, unused,
    Bool.not_eq_true', Bool.and_eq_false_iff, Bool.or_eq_false_iff, decide_eq_false_iff_not, bne_eq_false_iff_eq,
    beq_eq_false_iff_ne, strobe]
  tauto

theorem loadValid_iff (e : Entry) (d : Bytes 256) :
    loadValid e d = true ↔ ∀ i < loadVectors (burstOf e.record) (e.issued - 1),
      (vecAt (16 * i) d).valid (burstOf e.record).gateLimit = true := by
  rw [loadValid, all_range_iff]

/-! ### The store after a load (R32, R179) -/

theorem storeReadBytes_getElem? (m : List Host.Cell) (a n i : Nat) :
    (storeReadBytes m a n)[i]? = if i < n then some (storeRead m (a + i)) else none := by
  induction n generalizing a i with
  | zero => simp [storeReadBytes]
  | succ n ih =>
    cases i with
    | zero => simp [storeReadBytes]
    | succ i =>
      simp only [storeReadBytes, List.getElem?_cons_succ, ih, Nat.add_lt_add_iff_right]
      rw [show a + 1 + i = a + (i + 1) by omega]

/-- A store that reads as `d` from address `a` on reads each field of `d` at its offset. -/
theorem storeReadBytes_eq_byteRange {m : List Host.Cell} {a size : Nat} {d : Bytes 256}
    (reads : ∀ i : Fin 256, i.val < size → storeRead m (a + i) = d.get i) (off n : Nat) (inside : off + n ≤ size)
    (fits : size ≤ 256) : storeReadBytes m (a + off) n = byteRange off n d := by
  refine List.ext_getElem? fun i => ?_
  rw [storeReadBytes_getElem?, byteRange_getElem?]
  split
  · have small : off + i < 256 := by omega
    have read := reads ⟨off + i, small⟩ (by show off + i < size; omega)
    rw [Nat.add_assoc, read, List.getElem?_eq_getElem (by simpa using small)]
    rfl
  · rfl

theorem storeVector_of_reads {m : List Host.Cell} {block n j : Nat} {d : Bytes 256} (few : n ≤ 16) (hj : j < n)
    (reads : ∀ i : Fin 256, i.val < 16 * n → storeRead m (256 * block + i) = d.get i) :
    storeVector m block j = vecAt (16 * j) d := by
  have bytes (off k : Nat) (inside : off + k ≤ 16 * n) : storeReadBytes m (256 * block + off) k = byteRange off k d :=
    storeReadBytes_eq_byteRange reads off k inside (by omega)
  have drive := bytes (16 * j) 6 (by omega)
  have expect := bytes (16 * j + 6) 6 (by omega)
  have attributes := bytes (16 * j + 12) 4 (by omega)
  simp only [storeVector, storeAddress, Nat.add_assoc, drive, expect, attributes]
  rfl

/-- What the store reads after a load has been written to its block (R32, R34). -/
theorem storeRead_storeLoad {e : Entry} {block : Nat} (held : e.blocks[e.issued - 1]? = some block) (d : Bytes 256)
    {m : List Host.Cell} (canonical : storeWf m = true) (a : Nat) :
    storeRead (storeLoad e d m) a =
      if h : 256 * block ≤ a ∧ a < 256 * block + 16 * loadVectors (burstOf e.record) (e.issued - 1)
          ∧ a - 256 * block < 256 then d.get ⟨a - 256 * block, h.2.2⟩
      else storeRead m a := by
  have few : loadVectors (burstOf e.record) (e.issued - 1) ≤ 16 := Nat.min_le_left _ _
  simp only [storeLoad, held, storeRead_storeWriteBytes _ _ a canonical, storeAddress, Nat.mul_zero, Nat.add_zero,
    List.length_take, Vector.length_toList]
  by_cases inside : 256 * block ≤ a ∧ a < 256 * block + 16 * loadVectors (burstOf e.record) (e.issued - 1)
  · have small : a - 256 * block < 256 := by omega
    rw [if_pos (by omega), dif_pos ⟨inside.1, inside.2, small⟩, List.getD_eq_getElem?_getD,
      List.getElem?_take_of_lt (by omega), List.getElem?_eq_getElem (by simpa using small)]
    rfl
  · rw [if_neg (by omega), dif_neg (by omega)]

/-! ### The return of a load read (R34 to R36) -/

/-- Lane `l` with the entry at `k` replaced. -/
theorem setEntry_lane (l : LaneId) (k : Nat) (e : Entry) (s : State) (j : LaneId) :
    (setEntry l k e s).lane j = if j = l then { s.lane l with staging := (s.lane l).staging.set k e } else s.lane j :=
  setLane_lane_eq s l j _

theorem loadReturn_of_reading {l : LaneId} {k : Nat} {e : Entry} {op : OpId} (staged : (s.lane l).staging[k]? = some e)
    (loading : e.state = .loading) (reading : e.reading = some op) (reply : LoadReturn) :
    loadReturn l k reply s = match e.status, reply with
      | some w, _ => failLoad l k e w (returnOp op s)
      | none, .data d => acceptLoad l k e d (returnOp op s)
      | none, .busError => failLoad l k e .loadFault (returnOp op s) := by
  have at_ : entryAt l k s = some e := staged
  rw [loadReturn, at_]
  simp only [loading, reading] <;> rfl

theorem withdrawnReturn_of_marked {l : LaneId} {k : Nat} {e : Entry} {op : OpId} {w : Status}
    (staged : (s.lane l).staging[k]? = some e) (loading : e.state = .loading) (reading : e.reading = some op)
    (marked : e.status = some w) : withdrawnReturn l k s = failLoad l k e w (returnOp op s) := by
  have at_ : entryAt l k s = some e := staged
  rw [withdrawnReturn, at_]
  simp only [loading, reading, marked]

/-- Settles O24. -/
theorem loadReadsReturn : Obligations.LoadReadsReturn := by
  refine ⟨fun v => ⟨v.hold_eq, rfl, rfl, rfl⟩, fun l k e op s staged loading reading => ?_⟩
  intro b n bus replaced fails
  have failed {c : Instr} {st : Status} (given : Status) (status : e.status.getD given = st)
      (answers : exec c s = finish (failLoad l k e given (returnOp op s))) : fails c st := by
    subst status
    exact ⟨_, _, answers, rfl, rfl, setEntry_lane l k _ (returnOp op s)⟩
  have returns := loadReturn_of_reading (s := s) staged loading reading
  refine ⟨fun unmarked => ?_, fun w marked => ⟨?_, ?_, fun d => ?_⟩, fun d unmarked => ?_⟩
  · refine failed .loadFault (by rw [unmarked]; rfl) (congrArg finish ((returns .busError).trans ?_))
    simp only [unmarked]
  · exact failed w (by rw [marked]; rfl) (congrArg finish (withdrawnReturn_of_marked staged loading reading marked))
  · refine failed w (by rw [marked]; rfl) (congrArg finish ((returns .busError).trans ?_))
    simp only [marked]
  · refine failed w (by rw [marked]; rfl) (congrArg finish ((returns (.data d)).trans ?_))
    simp only [marked]
  · intro valid
    refine ⟨fun bad => ?_, fun good => ?_⟩
    · have invalid : ¬ loadValid e d = true := fun accepted => bad fun i hi =>
        (Vec.valid_iff _ _).1 ((loadValid_iff e d).1 accepted i hi)
      refine failed .badVector (by rw [unmarked]; rfl) (congrArg finish ((returns (.data d)).trans ?_))
      simp only [unmarked, acceptLoad, if_neg invalid]
    · intro block held canonical
      have accepted : loadValid e d = true := (loadValid_iff e d).2 fun i hi => (Vec.valid_iff _ _).2 (good i hi)
      have answers : exec (.loadReadReturn l k d) s =
          finish (setEntry l k e.accept { returnOp op s with store := storeLoad e d s.store }, [.take l]) := by
        refine congrArg finish ((returns (.data d)).trans ?_)
        simp only [unmarked, acceptLoad, if_pos accepted]
        rfl
      have reads := storeRead_storeLoad held d canonical
      refine ⟨_, _, answers, rfl, rfl, setEntry_lane l k _ _, fun j hj => ?_, reads⟩
      have few : n ≤ 16 := Nat.min_le_left _ _
      have place : (16 * (e.issued - 1) + j) / 16 = e.issued - 1 ∧ (16 * (e.issued - 1) + j) % 16 = j := by omega
      have vector : storeVector (storeLoad e d s.store) block j = vecAt (16 * j) d :=
        storeVector_of_reads few hj fun i hi => by
          have bound := i.isLt
          rw [reads, dif_pos ⟨by omega, by show _ < 256 * block + 16 * n; omega, by omega⟩]
          exact congrArg d.get (Fin.ext (by show 256 * block + i.val - 256 * block = i.val; omega))
      show vectorOf (storeLoad e d s.store) e.blocks _ = _
      rw [vectorOf, blockOf, place.1, place.2, held, Option.map_some, vector]
      rfl

end

end Sys2Proof.Machine
end

section
/-! Retirement and play (R15, R16, R43, R80 to R93, R106 to R110): the pins after a release, a hold and a drive update,
what `retire` leaves, and the vector boundary. -/

namespace Sys2Proof.Machine

section
variable {s t u : State}

/-! ### One pin after an update of the Pin Table (R43, R54, R55) -/

theorem PinEntry.release_eq_released (p : PinEntry) : p.release = p.released := rfl

theorem releaseLane_pin (l : LaneId) (s : State) (n : PinId) :
    (releaseLane l s).pin n = if (s.pin n).owner = some l then (s.pin n).released else s.pin n := by
  rw [State.pin_eq, State.pin_eq]
  exact mapTable_get _ s.pins n

theorem holdLane_pin (l : LaneId) (s : State) (n : PinId) :
    (holdLane l s).pin n = if (s.pin n).owner = some l then { s.pin n with held := true } else s.pin n := by
  rw [State.pin_eq, State.pin_eq]
  exact mapTable_get _ s.pins n

theorem driveUpdate_pin (l : LaneId) (value : Pins) (s : State) (n : PinId) :
    (driveUpdate l value s).pin n = (s.pin n).driven l value n := by
  rw [State.pin_eq, State.pin_eq]
  exact mapTable_get _ s.pins n

/-! ### Retirement (R16, R27, R55) -/

theorem keepsPins_iff (b : Burst) (status : Status) :
    keepsPins b status = true ↔ b.holdPins = true ∧ status ≠ .aborted ∧ status ≠ .tripped := by
  simp [keepsPins, and_assoc]

theorem Context.claimGranted_eq_owning (c : Context) : c.claimGranted = c.owning := by cases c <;> rfl

theorem looks_eq (blocks : List Nat) : tasksIf (!blocks.isEmpty) [Task.look] = if blocks = [] then [] else [.look] := by
  cases blocks <;> rfl

/-- What `retire` does with the lane's pins is told apart by the rules' own condition (R16, R55). -/
theorem retire_eq (l : LaneId) (a : Active) (status : Status) (s : State) :
    retire l a status s =
      let s1 := freeBlocks a.blocks (s.setActive l (some (a.retire status s.timebase)))
      let freed := if a.blocks = [] then [] else [Task.look]
      if a.kind = 1 ∧ a.context.owning = true then
        if (burstOf a.record).holdPins = true ∧ status ≠ .aborted ∧ status ≠ .tripped then
          (holdLane l s1, freed ++ [.ask (.context l)])
        else (releaseLane l s1, freed ++ (if OwnsPin l s then [.examine] else []) ++ [.ask (.context l)])
      else (s1, freed ++ [.ask (.context l)]) := by
  have asked : tasksIf (ownsAny l s) [Task.examine] = if OwnsPin l s then [.examine] else [] :=
    if_congr (ownsAny_iff l s) rfl rfl
  simp only [retire, Context.claimGranted_eq_owning, keepsPins_iff, looks_eq, asked]
  rfl

theorem retires_retire (l : LaneId) (a : Active) (status : Status) (s : State) :
    Retires l a status s (retire l a status s).1 (retire l a status s).2 := by
  have lanes (k : LaneId) : (s.setActive l (some (a.retire status s.timebase))).lane k =
      if k = l then { s.lane l with active := some { a with context := .retiring status s.timebase, blocks := [] } }
      else s.lane k := setLane_lane_eq s l k _
  rw [retire_eq]
  by_cases owning : a.kind = 1 ∧ a.context.owning = true
  · obtain ⟨kind, owns⟩ := owning
    by_cases keeps : (burstOf a.record).holdPins = true ∧ status ≠ .aborted ∧ status ≠ .tripped
    · simp only [if_pos (And.intro kind owns), if_pos keeps]
      refine { rest := rfl, lanes := lanes, pins := fun n => ?_, work := ?_ }
      · simp only [kind, owns, and_true, if_pos keeps]
        exact holdLane_pin l _ n
      · rw [if_neg (c := a.kind = 1 ∧ _) fun yes => yes.2.2.2 keeps, List.append_nil]
    · simp only [if_pos (And.intro kind owns), if_neg keeps]
      refine { rest := rfl, lanes := lanes, pins := fun n => ?_, work := ?_ }
      · simp only [kind, owns, and_true, if_neg keeps]
        exact releaseLane_pin l _ n
      · simp only [kind, owns, keeps, not_false_eq_true, and_true, true_and]
        exact .refl _
  · simp only [if_neg owning]
    refine { rest := rfl, lanes := lanes, pins := fun n => ?_, work := ?_ }
    · exact (if_neg fun yes => owning yes.2).symm
    · rw [if_neg (c := a.kind = 1 ∧ _) fun yes => owning ⟨yes.1, yes.2.1⟩, List.append_nil]

/-! ### The pace (R104) -/

theorem startPeriod_eq (now : Tick) (e : Engine) :
    e.startPeriod now =
      let p : Nat × Tick := if 32 ≤ e.accumulator + e.paceFraction.toNat then
          (e.accumulator + e.paceFraction.toNat - 32, 1) else (e.accumulator + e.paceFraction.toNat, 0)
      { e with
        strobed := false, periodStart := now, accumulator := p.1
        periodLength := e.paceInteger.setWidth 48 + p.2 } := by
  simp only [Engine.startPeriod, paceStep]
  split <;> rfl

/-! ### The vector boundary (R82, R108) -/

/-- The work a vector boundary calls for: the retune port asks when a pass boundary resolves a shadow pace and the
outbox was empty. -/
theorem vectorBoundary_work (l : LaneId) (a : Active) (e : Engine) (j : Nat) (v : Vec) (s : State) :
    (vectorBoundary l a e j v s).2 =
      if (burstOf a.record).passBoundary j = true ∧ (s.lane l).shadow.isSome = true ∧ (s.lane l).outbox = [] then
        [.ask (.retune l)] else [] := by
  simp only [vectorBoundary, resolveShadow_eq, driveUpdate_lane]
  by_cases pass : (burstOf a.record).passBoundary j = true
  · rw [if_pos pass]
    exact if_congr (by simp [pass]) rfl rfl
  · rw [if_neg pass, if_neg fun yes => pass yes.1]

/-- The lane after a vector boundary. -/
def LaneState.atBoundary (l : LaneId) (a : Active) (e : Engine) (j : Nat) (v : Vec) (now : Tick) (x : LaneState) :
    LaneState :=
  let y := { x with active := some (a.atBoundary x.shadow e j v now) }
  if (burstOf a.record).passBoundary j then
    y.shadowResolved (retuneStatus (burstOf a.record) x.shadow) l now
  else y

/-- A vector boundary changes its lane and drives the lane's pins. -/
theorem vectorBoundary_state (l : LaneId) (a : Active) (e : Engine) (j : Nat) (v : Vec) (s : State) :
    (vectorBoundary l a e j v s).1 =
      (driveUpdate l v.drive s).setLane l ((s.lane l).atBoundary l a e j v s.timebase) := by
  rw [vectorBoundary_eq]
  by_cases pass : (burstOf a.record).passBoundary j = true
  · simp only [pass, if_true, mapLane, State.setActive_eq, State.setLane_setLane, State.lane_setLane,
      LaneState.atBoundary, driveUpdate_lane]
  · simp only [LaneState.atBoundary, if_neg pass]
    rfl

theorem atBoundary_of_no_passBoundary {l : LaneId} {a : Active} {e : Engine} {j : Nat} {v : Vec} {now : Tick}
    (inside : (burstOf a.record).passBoundary j = false) (x : LaneState) :
    x.atBoundary l a e j v now = { x with active := some { a with
      stats := { a.stats with vectors := a.stats.vectors + 1 }
      context := .playing
        (({ e with play := j, period := 1, gateResolved := false, vector := v } : Engine).startPeriod now) } } := by
  simp [LaneState.atBoundary, Active.atBoundary, boundaryEngine, inside]

/-- What the Pin Table and the lanes are after a vector boundary. -/
theorem vectorBoundary_frame (l : LaneId) (a : Active) (e : Engine) (j : Nat) (v : Vec) (s : State) :
    let u := (vectorBoundary l a e j v s).1
    u = { s with lanes := u.lanes, pins := u.pins }
      ∧ (∀ n : PinId, u.pin n = (s.pin n).driven l v.drive n)
      ∧ ∀ k, u.lane k = if k = l then (s.lane l).atBoundary l a e j v s.timebase else s.lane k := by
  intro u
  have same : u = _ := vectorBoundary_state l a e j v s
  rw [same]
  exact ⟨rfl, driveUpdate_pin l v.drive s, fun k => setLane_lane_eq (driveUpdate l v.drive s) l k _⟩

/-! ### Entry to PLAYING (R15, R74, R110) -/

theorem passBoundary_one (b : Burst) : b.passBoundary 1 = false := by
  have before : 1 ≤ b.leadIn ∨ b.hasPasses = false := by
    by_cases looped : b.hasPasses = true
    · exact .inl (by simp [Burst.leadIn, looped])
    · exact .inr (by simpa using looped)
  rcases before with lead | plain
  · simp [Burst.passBoundary, Nat.not_lt.mpr lead]
  · simp [Burst.passBoundary, plain]

theorem atBoundary_eq_started (l : LaneId) (a : Active) (late grouped : Bool) (v : Vec) (now : Tick) (x : LaneState) :
    (LaneState.shadowResolved .superseded l now x).atBoundary l
        { a with startTime := now, late := late, grouped := grouped, stats := Stats.zero }
        (Engine.begin_ (burstOf a.record) v) 1 v now =
      x.started l a late grouped v now := by
  rw [atBoundary_of_no_passBoundary (passBoundary_one _), startPeriod_eq]
  simp only [Engine.begin_, LaneState.shadowResolved, LaneState.started, Nat.zero_add]
  split <;> rfl

/-- A burst that enters PLAYING (R15): its lane as the rules have it, its pins driven, the retune port's request. -/
theorem enterPlaying_frame (l : LaneId) (a : Active) (late grouped : Bool) (v : Vec) (s : State) :
    let u := (enterPlaying l a late grouped v s).1
    u = { s with lanes := u.lanes, pins := u.pins }
      ∧ (∀ n : PinId, u.pin n = (s.pin n).driven l v.drive n)
      ∧ (∀ k, u.lane k = if k = l then (s.lane l).started l a late grouped v s.timebase else s.lane k)
      ∧ (enterPlaying l a late grouped v s).2 =
          if (s.lane l).shadow.isSome = true ∧ (s.lane l).outbox = [] then [.ask (.retune l)] else [] := by
  intro u
  let r := mapLane l (LaneState.shadowResolved .superseded l s.timebase) s
  let a' : Active := { a with startTime := s.timebase, late := late, grouped := grouped, stats := Stats.zero }
  have resolved : enterPlaying l a late grouped v s =
      ((vectorBoundary l a' (Engine.begin_ (burstOf a.record) v) 1 v r).1,
        (if (s.lane l).shadow.isSome = true ∧ (s.lane l).outbox = [] then [.ask (.retune l)] else [])
          ++ (vectorBoundary l a' (Engine.begin_ (burstOf a.record) v) 1 v r).2) := by
    rw [enterPlaying, Effect.andThen, resolveShadow_eq]
  obtain ⟨rest, pins, lanes⟩ := vectorBoundary_frame l a' (Engine.begin_ (burstOf a.record) v) 1 v r
  have same : u = (vectorBoundary l a' (Engine.begin_ (burstOf a.record) v) 1 v r).1 :=
    (congrArg Prod.fst resolved :)
  rw [← same] at rest pins lanes
  refine ⟨rest, pins, fun k => (lanes k).trans ?_, ?_⟩
  · rw [show r.lane k = _ from mapLane_lane l k _ s, mapLane_lane_self]
    by_cases here : k = l
    · rw [if_pos here, if_pos here]
      exact atBoundary_eq_started l a late grouped v s.timebase (s.lane l)
    · rw [if_neg here, if_neg here, if_neg (Ne.symm here)]
  · have quiet : (vectorBoundary l a' (Engine.begin_ (burstOf a.record) v) 1 v r).2 = [] := by
      rw [vectorBoundary_work, if_neg]
      exact fun yes => Bool.false_ne_true ((passBoundary_one _).symm.trans yes.1)
    rw [resolved, quiet, List.append_nil]

/-- Settles O35. -/
theorem burstStartEntersPlaying : Obligations.BurstStartEntersPlaying := by
  intro l late a v s active kind waits vector
  have waiting : waitEnds kindBurst l s = some (a, late) := waitEnds_of_waiting active kind waits
  have starts : exec (.burstStart l) s = finish (enterPlaying l a late false v s) := by
    simp only [exec, execBurstStart, waiting, vectorOfPlay, vector]
  obtain ⟨rest, pins, lanes, work⟩ := enterPlaying_frame l a late false v s
  exact ⟨_, _, starts, rest, lanes, pins, work⟩

/-! ### The end of a period (R91 to R93) -/

/-- Whether the play in progress goes on for another period (R91). -/
def Engine.goesOn (e : Engine) : Prop :=
  (e.vector.gate = true ∧ e.gateResolved = false) ∨ (e.vector.gate = false ∧ e.period < e.vector.hold + 1)

section
variable {l : LaneId} {a : Active} {e : Engine} {b : Burst} {x : Stats} (open_ : e.stop = none)
include open_

theorem periodFollow_of_goesOn (on : e.goesOn) : periodFollow b e x = .nextPeriod := by
  simp only [periodFollow, open_]
  rcases on with ⟨gate, unresolved⟩ | ⟨plain, short⟩
  · simp [gate, unresolved]
  · simp [plain, short]

theorem periodFollow_of_not_goesOn (done : ¬ e.goesOn) :
    periodFollow b e x =
      if e.play < b.sequenceLength then .nextPlay else .ends (if x.mismatches = 0 then .ok else .mismatch) := by
  simp only [periodFollow, open_]
  cases gate : e.vector.gate with
  | false =>
    have held : ¬ e.period < e.vector.hold + 1 := fun short => done (.inr ⟨gate, short⟩)
    simp [held]
  | true =>
    have resolved : e.gateResolved = true := by
      by_contra not
      exact done (.inl ⟨gate, by simpa using not⟩)
    simp [resolved]

end

theorem exec_periodEnd_of_due {l : LaneId} {a : Active} {e : Engine} (active : (s.lane l).active = some a)
    (playing : a.context = .playing e) (ends : e.periodStart + e.periodLength = s.timebase) :
    (∀ status, periodFollow (burstOf a.record) e a.stats = .ends status →
      exec (.periodEnd l) s = finish (retire l a status s))
    ∧ (periodFollow (burstOf a.record) e a.stats = .nextPeriod →
      exec (.periodEnd l) s = finishState (nextPeriod l a e s))
    ∧ (∀ v, periodFollow (burstOf a.record) e a.stats = .nextPlay →
      vectorOf s.store a.blocks ((burstOf a.record).playIndex (e.play + 1)) = some v →
      exec (.periodEnd l) s = finish (vectorBoundary l a e (e.play + 1) v s)) := by
  have due : e.periodEnd = s.timebase := ends
  simp only [exec, execPeriodEnd, playingBurst_of_playing active playing, due, if_true, vectorOfPlay]
  exact ⟨fun status follow => by simp only [follow], fun follow => by simp only [follow],
    fun v follow vector => by simp only [follow, vector]⟩

/-- What presents does not depend on the active contexts. -/
theorem PortQuiet.setActive (quiet : PortQuiet s) (l : LaneId) (a : Option Active) : PortQuiet (s.setActive l a) := by
  have lanes (k : LaneId) : ((s.setActive l a).lane k).staging = (s.lane k).staging
      ∧ ((s.setActive l a).lane k).eligible = (s.lane k).eligible := by
    rw [State.setActive_eq, State.lane_setLane]
    split
    next here => exact here ▸ ⟨rfl, rfl⟩
    · exact ⟨rfl, rfl⟩
  have unchanged (r : Requester) : presents (s.setActive l a) r = presents s r := by
    cases r with
    | fetch => exact congrArg allLanes.any (funext fun k => congrArg (s.on && ·) (lanes k).2)
    | loader k => exact congrArg (fun q => s.on && q.any Entry.wantsRead) (lanes k).1
    | completion => rfl
    | capture => rfl
  exact fun r mem => (unchanged r).trans (quiet r mem)

/-- Settles O37. -/
theorem periodEndDecidesWhatFollows : Obligations.PeriodEndDecidesWhatFollows := by
  intro l a e s active playing ends b pace more
  obtain ⟨stops, goes, plays⟩ := exec_periodEnd_of_due active playing ends
  refine ⟨fun status stop => ?_, fun stop on quiet => ?_, fun v stop done left vector => ?_, fun stop done last => ?_⟩
  · have follow : periodFollow b e a.stats = .ends status := by simp only [periodFollow, stop]
    exact ⟨_, _, stops status follow, retires_retire l a status s⟩
  · rw [goes (periodFollow_of_goesOn stop on), nextPeriod, setContext, finishState_of_portQuiet (quiet.setActive l _),
      startPeriod_eq]
  · have follow : periodFollow b e a.stats = .nextPlay :=
      (periodFollow_of_not_goesOn stop done).trans (if_pos left)
    obtain ⟨rest, pins, lanes⟩ := vectorBoundary_frame l a e (e.play + 1) v s
    refine ⟨(vectorBoundary l a e (e.play + 1) v s).1, (vectorBoundary l a e (e.play + 1) v s).2,
      plays v follow vector, rest, pins, fun k other => (lanes k).trans (if_neg other),
      fun inside => ?_⟩
    refine ⟨?_, ((lanes l).trans (if_pos rfl)).trans ?_⟩
    · rw [vectorBoundary_work, if_neg fun yes => Bool.false_ne_true (inside.symm.trans yes.1)]
    · rw [atBoundary_of_no_passBoundary inside, startPeriod_eq]
  · have follow := (periodFollow_of_not_goesOn (x := a.stats) stop done).trans (if_neg (Nat.not_lt.mpr last))
    exact ⟨_, _, stops _ follow, retires_retire l a _ s⟩

/-- Settles O38. -/
theorem retuneAtPassBoundary : Obligations.RetuneAtPassBoundary := by
  intro l a e v s active playing ends b pace stop complete left boundary vector
  have done : ¬ e.goesOn := by
    rintro (⟨gate, unresolved⟩ | ⟨plain, short⟩)
    · rw [if_pos gate] at complete
      exact Bool.false_ne_true (unresolved.symm.trans complete)
    · rw [if_neg (by simp [plain])] at complete
      omega
  have follow : periodFollow b e a.stats = .nextPlay := (periodFollow_of_not_goesOn stop done).trans (if_pos left)
  obtain ⟨rest, pins, lanes⟩ := vectorBoundary_frame l a e (e.play + 1) v s
  refine ⟨(vectorBoundary l a e (e.play + 1) v s).1, (vectorBoundary l a e (e.play + 1) v s).2,
    (exec_periodEnd_of_due active playing ends).2.2 v follow vector, rest, pins, fun k other => (lanes k).trans (if_neg other), retuneStatus b (s.lane l).shadow, ?_⟩
  have lane := (lanes l).trans (if_pos rfl)
  have work := vectorBoundary_work l a e (e.play + 1) v s
  have first : (burstOf a.record).passBoundary (e.play + 1) = true := boundary
  rw [lane, work, LaneState.atBoundary, if_pos first]
  simp only [Active.atBoundary, boundaryEngine, first, if_true, true_and]
  cases shadow : (s.lane l).shadow with
  | none =>
    refine ⟨e.paceInteger, e.paceFraction, e.accumulator, ⟨rfl, rfl, rfl, rfl⟩, ?_⟩
    simp only [retuneEngine, startPeriod_eq, LaneState.shadowResolved, LaneState.shadowCompletion, shadow]
    rfl
  | some sh =>
    by_cases above : b.strobeOffset.toNat < sh.paceInteger.toNat
    · refine ⟨sh.paceInteger, sh.paceFraction, 0, ?_, ?_⟩
      · simp [retuneStatus, b, above]
      · simp only [retuneEngine, b, if_pos above, startPeriod_eq, LaneState.shadowResolved, LaneState.shadowCompletion,
          shadow]
        rfl
    · refine ⟨e.paceInteger, e.paceFraction, e.accumulator, ?_, ?_⟩
      · simp [retuneStatus, b, above]
      · simp only [retuneEngine, b, if_neg above, startPeriod_eq, LaneState.shadowResolved, LaneState.shadowCompletion,
          shadow]
        rfl

end

end Sys2Proof.Machine
end

section
/-! Strobes and gates (R83 to R90), and the pass numbers of the play sequence (R75 to R78). -/

namespace Sys2Proof.Machine

section
variable {s : State}

/-! ### The mismatch bits (R83, R84, R87) -/

theorem observedValue_eq {b : Burst} {observed : Pins}
    (raw : ∀ n : PinId, observed.getLsbD n = (b.sense.getLsbD n && rawLevel s n)) : observedValue b s = observed := by
  refine BitVec.eq_of_getLsbD_eq fun i hi => ?_
  have level : (rawLevels s).getLsbD i = rawLevel s i := pinBit_pinsWhere (rawLevel s) hi
  rw [observedValue, BitVec.getLsbD_and, level, raw ⟨i, hi⟩, Bool.and_comm]

/-- Whether some pin of the care mask was observed other than expected (R84). -/
abbrev Differs (b : Burst) (v : Vec) (observed : Pins) : Prop :=
  ∃ n : PinId, b.care.getLsbD n = true ∧ observed.getLsbD n ≠ v.expect.getLsbD n

theorem mismatchBits_eq_zero_iff (b : Burst) (v : Vec) (observed : Pins) :
    mismatchBits b v observed = 0 ↔ ¬ Differs b v observed := by
  rw [mismatchBits, xor_and_eq_zero_iff_pins]
  push Not
  rfl

theorem mismatchBits_beq_zero {b : Burst} {v : Vec} {observed : Pins} {differs : Bool}
    (known : differs = true ↔ Differs b v observed) : (mismatchBits b v observed == 0) = !differs := by
  rw [Bool.eq_iff_iff, beq_iff_eq, mismatchBits_eq_zero_iff, ← known]
  simp

theorem strobeFails_iff {b : Burst} {v : Vec} {observed : Pins} {differs : Bool}
    (known : differs = true ↔ Differs b v observed) :
    strobeFails b v observed = true ↔ differs ≠ b.compareInvert := by
  rw [strobeFails, bne, mismatchBits_beq_zero known]
  cases b.compareInvert <;> cases differs <;> decide

theorem gateHolds_iff {b : Burst} {v : Vec} {observed : Pins} {differs : Bool}
    (known : differs = true ↔ Differs b v observed) :
    gateHolds b v observed = true ↔ differs = v.gateOnDiff := by
  rw [gateHolds, bne, mismatchBits_beq_zero known]
  cases v.gateOnDiff <;> cases differs <;> decide

/-! ### What a strobe finds (R85 to R90) -/

theorem saturated_add_one (n : Word) :
    (if n = BitVec.allOnes 32 then n else n + 1) = BitVec.ofNat 32 (min (n.toNat + 1) (2 ^ 32 - 1)) := by
  split
  case isTrue full => subst full; rfl
  case isFalse notFull =>
    have room : n.toNat ≠ 2 ^ 32 - 1 := fun h => notFull (BitVec.eq_of_toNat_eq (h.trans (by rfl)))
    bv_omega

theorem strobeOutcome_of_strobe {b : Burst} {e : Engine} (strobe : e.vector.strobe = true) (observed : Pins)
    (x : Stats) :
    strobeOutcome b observed e x =
      if strobeFails b e.vector observed = true then
        ({ e with strobed := true, stop := if b.stopOnFail = true then some .mismatchStop else e.stop },
          x.fail (b.playIndex e.play) (b.passNumber e.play) observed)
      else ({ e with strobed := true }, x) := by
  rw [strobeOutcome, if_pos strobe]

theorem strobeOutcome_of_gate {b : Burst} {e : Engine} (plain : e.vector.strobe = false) (gate : e.vector.gate = true)
    (observed : Pins) (x : Stats) :
    strobeOutcome b observed e x =
      if gateHolds b e.vector observed = true then ({ e with strobed := true, gateResolved := true }, x)
      else ({ e with
        strobed := true, stop := if e.period = b.gateLimit.toNat then some .gateTimeout else e.stop }, x) := by
  simp only [strobeOutcome, plain, gate, if_true, Bool.false_eq_true, if_false]
  split
  · rfl
  · split <;> rfl

theorem strobeOutcome_of_plain {b : Burst} {e : Engine} (plain : e.vector.strobe = false)
    (free : e.vector.gate = false) (observed : Pins) (x : Stats) :
    strobeOutcome b observed e x = ({ e with strobed := true }, x) := by
  simp [strobeOutcome, plain, free]

/-- What the strobe finds, by the rules' own conditions (R84 to R90). -/
theorem strobeOutcome_eq {b : Burst} {e : Engine} {observed : Pins} {differs : Bool}
    (known : differs = true ↔ Differs b e.vector observed) (x : Stats) :
    let fails := e.vector.strobe = true ∧ differs ≠ b.compareInvert
    let gate := e.vector.gate = true ∧ e.vector.strobe = false
    let holds := differs = e.vector.gateOnDiff
    let first : Bool := x.mismatches == 0
    strobeOutcome b observed e x =
      ({ e with
          strobed := true
          gateResolved := e.gateResolved || decide (gate ∧ holds)
          stop := if fails ∧ b.stopOnFail = true then some .mismatchStop
                  else if gate ∧ ¬ holds ∧ e.period = b.gateLimit.toNat then some .gateTimeout else e.stop },
        if fails then
          { x with
            mismatches := BitVec.ofNat 32 (min (x.mismatches.toNat + 1) (2 ^ 32 - 1))
            firstIndex := if first then BitVec.ofNat 16 (b.playIndex e.play) else x.firstIndex
            firstPass := if first then BitVec.ofNat 16 (b.passNumber e.play) else x.firstPass
            firstObserved := if first then observed else x.firstObserved }
        else x) := by
  intro fails gate holds first
  have saturated := saturated_add_one x.mismatches
  generalize BitVec.ofNat 32 (min (x.mismatches.toNat + 1) (2 ^ 32 - 1)) = counted at saturated ⊢
  rcases Bool.eq_false_or_eq_true e.vector.strobe with strobe | strobe
  · have notGate : ¬ gate := fun yes => Bool.false_ne_true (yes.2.symm.trans strobe)
    rw [strobeOutcome_of_strobe strobe]
    by_cases differ : differs ≠ b.compareInvert
    · have isFail : fails := ⟨strobe, differ⟩
      have isFirst : first = true ↔ x.mismatches = 0 := beq_iff_eq
      simp only [(strobeFails_iff known).2 differ, isFail, notGate, Stats.fail, saturated, isFirst, if_true, true_and,
        false_and, decide_false, Bool.or_false, if_false]
    · have notFail : ¬ fails := fun yes => differ yes.2
      simp only [mt (strobeFails_iff known).1 differ, notFail, notGate, Bool.false_eq_true, if_false, false_and,
        decide_false, Bool.or_false]
  · have notFail : ¬ fails := fun yes => Bool.false_ne_true (strobe.symm.trans yes.1)
    rcases Bool.eq_false_or_eq_true e.vector.gate with gated | gated
    · have isGate : gate := ⟨gated, strobe⟩
      rw [strobeOutcome_of_gate strobe gated]
      by_cases held : holds
      · simp only [(gateHolds_iff known).2 held, isGate, held, notFail, if_true, if_false, false_and, true_and,
          not_true, decide_true, Bool.or_true]
      · simp only [mt (gateHolds_iff known).1 held, isGate, held, notFail, Bool.false_eq_true, if_false, false_and,
          true_and, and_false, not_false_eq_true, decide_false, Bool.or_false]
    · have notGate : ¬ gate := fun yes => Bool.false_ne_true (gated.symm.trans yes.1)
      rw [strobeOutcome_of_plain strobe gated]
      simp only [notGate, notFail, if_false, false_and, decide_false, Bool.or_false]

/-- Settles O36. -/
theorem strobeComparesAndTestsGates : Obligations.StrobeComparesAndTestsGates := by
  intro l a e observed s quiet active playing untaken b due raw differs fails gate holds first
  have now : strobeDue s (a, e) = true := (strobeDue_iff s (a, e)).2 ⟨untaken, due⟩
  have seen : observedValue (burstOf a.record) s = observed := observedValue_eq raw
  have known : differs = true ↔ Differs b e.vector observed := decide_eq_true_iff
  have takes : exec (.strobe l) s = .next (takeStrobe l a e s) := by
    simp only [exec, execStrobe, playingBurst_of_playing active playing, now, if_true]
    exact finishState_of_portQuiet (quiet.setActive l _)
  rw [takes, takeStrobe, seen]
  clear_value differs
  rw [strobeOutcome_eq known]

end

/-! ### Pass boundaries and pass numbers (R78) -/

namespace Burst

section
variable {b : Burst}

theorem passBoundary_of_no_passes (plain : b.hasPasses = false) (j : Nat) : b.passBoundary j = false := by
  simp [passBoundary, plain]

theorem passBoundary_iff (looped : b.hasPasses = true) (j : Nat) :
    b.passBoundary j = true
      ↔ b.leadIn < j ∧ j - b.leadIn ≤ b.passes * b.passLength ∧ (j - b.leadIn - 1) % b.passLength = 0 := by
  simp [passBoundary, looped, and_assoc]

/-- A pass boundary is the first play of some pass. -/
theorem passBoundary_iff_exists (looped : b.hasPasses = true) (long : 1 ≤ b.passLength) (j : Nat) :
    b.passBoundary j = true
      ↔ ∃ k, 1 ≤ k ∧ k ≤ b.passes ∧ j = b.leadIn + (k - 1) * b.passLength + 1 := by
  rw [passBoundary_iff looped]
  constructor
  · rintro ⟨after, inside, first⟩
    obtain ⟨m, place⟩ := Nat.dvd_of_mod_eq_zero first
    have below : b.passLength * m < b.passLength * b.passes := by
      rw [Nat.mul_comm _ b.passes]
      omega
    refine ⟨m + 1, Nat.le_add_left 1 m, Nat.lt_of_mul_lt_mul_left below, ?_⟩
    rw [Nat.add_sub_cancel, Nat.mul_comm m]
    omega
  · rintro ⟨k, positive, few, rfl⟩
    obtain ⟨m, rfl⟩ := Nat.exists_eq_add_of_le' positive
    have fits : (m + 1) * b.passLength ≤ b.passes * b.passLength := Nat.mul_le_mul_right _ few
    rw [Nat.succ_mul] at fits
    rw [Nat.add_sub_cancel, show b.leadIn + m * b.passLength + 1 - b.leadIn - 1 = m * b.passLength by omega]
    exact ⟨by omega, by omega, Nat.mul_mod_left _ _⟩

theorem mul_sub_one_div_add_one {p m : Nat} (some_ : 1 ≤ p) (long : 1 ≤ m) : (p * m - 1) / m + 1 = p := by
  obtain ⟨q, rfl⟩ := Nat.exists_eq_add_of_le' some_
  have split_ : (q + 1) * m - 1 = m - 1 + m * q := by
    rw [Nat.succ_mul, Nat.mul_comm q]
    omega
  rw [split_, Nat.add_mul_div_left _ _ long, Nat.div_eq_of_lt (by omega), Nat.zero_add]

/-- Each pass boundary begins the next pass. -/
theorem passNumber_succ (looped : b.hasPasses = true) (long : 1 ≤ b.passLength) (n : Nat) :
    b.passNumber (n + 1) = b.passNumber n + if b.passBoundary (n + 1) = true then 1 else 0 := by
  have some_ : 1 ≤ b.passes := by
    have := (Bool.and_eq_true_iff.mp looped).2
    simpa [Nat.one_le_iff_ne_zero] using this
  have room : 1 ≤ b.passes * b.passLength := Nat.mul_pos some_ long
  simp only [passBoundary_iff looped, passNumber]
  rcases Nat.lt_trichotomy n b.leadIn with before | last | after
  · simp [before, before.le, Nat.succ_le_of_lt before]
  · subst last
    simp [room]
  · have notBefore : ¬ n ≤ b.leadIn := Nat.not_le.mpr after
    have notBefore' : ¬ n + 1 ≤ b.leadIn := by omega
    obtain ⟨d, place⟩ : ∃ d, n = b.leadIn + 1 + d := Nat.exists_eq_add_of_le after
    have here : n - b.leadIn = d + 1 := by omega
    have next_ : n + 1 - b.leadIn = d + 2 := by omega
    simp only [if_neg notBefore, if_neg notBefore', here, next_, Nat.add_sub_cancel, show b.leadIn < n + 1 by omega,
      true_and, show d + 2 - 1 = d + 1 from rfl]
    by_cases inside : d + 2 ≤ b.passes * b.passLength
    · rw [if_pos inside, if_pos (by omega), Nat.succ_div]
      simp only [inside, true_and, Nat.dvd_iff_mod_eq_zero]
      omega
    · rw [if_neg inside, if_neg (c := d + 2 ≤ _ ∧ _) fun yes => inside yes.1]
      split
      next whole =>
        have full : d + 1 = b.passes * b.passLength := by omega
        rw [show d = b.passes * b.passLength - 1 by omega, mul_sub_one_div_add_one some_ long]
      · rfl

theorem passNumber_of_after (long : 1 ≤ b.passLength) {n : Nat} (after : b.leadIn + b.passes * b.passLength ≤ n)
    (some_ : 1 ≤ b.passes) : b.passNumber n = b.passes := by
  have room : 1 ≤ b.passes * b.passLength := Nat.mul_pos some_ long
  rw [passNumber, if_neg (by omega)]
  split
  next inside =>
    rw [show n - b.leadIn - 1 = b.passes * b.passLength - 1 by omega]
    exact mul_sub_one_div_add_one some_ long
  · rfl

theorem length_filter_passBoundary (looped : b.hasPasses = true) (long : 1 ≤ b.passLength) (n : Nat) :
    ((List.range n).filter fun i => b.passBoundary (i + 1)).length = b.passNumber n := by
  induction n with
  | zero => simp [passNumber]
  | succ n ih =>
    rw [List.range_succ, List.filter_append, List.length_append, ih, passNumber_succ looped long]
    cases boundary : b.passBoundary (n + 1) <;> simp [boundary]

end

end Burst

/-- Settles O40. -/
theorem passNumbersCountPassBoundaries : Obligations.PassNumbersCountPassBoundaries := by
  intro r valid b p first last length
  obtain ⟨pos, few, fits⟩ := shape_of_burstValid valid
  obtain ⟨-, -, -, known, -, -, -, -, -, -, bounces, -⟩ := (burstValid_iff r).1 valid
  by_cases looped : b.hasPasses = true
  · have looping : b.loopCode ≠ 0 := mt (b.loopMode_eq_none_iff).2 (Burst.loopMode_ne_none_of_hasPasses looped)
    have some_ : 1 ≤ b.passes := by
      have := (Bool.and_eq_true_iff.mp looped).2
      simpa [Nat.one_le_iff_ne_zero] using this
    have window := fits (Burst.loopMode_ne_none_of_hasPasses looped)
    have long : 1 ≤ b.passLength := by
      rw [Burst.passLength_of_looping looping]
      split
      · omega
      next other =>
        have bouncing : b.loopCode = 2 := by
          rcases Burst.code_cases known with code | code | code
          · exact absurd code looping
          · exact absurd code other
          · exact code
        have apart : b.loopStart ≠ b.loopEnd := bounces bouncing
        have order : b.loopStart ≤ b.loopEnd := window.1
        omega
    have lead : b.leadIn = last + 1 := if_pos looped
    have size : length = b.passLength := (Burst.passLength_of_looping looping).symm
    refine ⟨fun j => ?_, ?_, fun j _ _ => (Burst.length_filter_passBoundary looped long j).symm⟩
    · rw [Burst.passBoundary_iff_exists looped long, lead, size]
      exact (and_iff_right looping).symm
    · rw [Burst.length_filter_passBoundary looped long, if_neg (show field 8 3 r ≠ 0 from looping)]
      refine Burst.passNumber_of_after long ?_ some_
      rw [Burst.sequenceLength_eq_of_hasPasses fits looped]
      exact Nat.le_add_right _ _
  · have plain : b.hasPasses = false := by simpa using looped
    have none_ := Burst.passBoundary_of_no_passes plain
    have why := (b.hasPasses_eq_false_iff).1 plain
    refine ⟨fun j => ?_, ?_, fun j _ within => ?_⟩
    · rw [none_]
      refine ⟨nofun, fun ⟨looping, k, positive, few, _⟩ => ?_⟩
      have no : p = 0 := why.resolve_left looping
      omega
    · simp only [none_, List.filter_false, List.length_nil]
      split
      · rfl
      next looping => exact (why.resolve_left looping).symm
    · have inside : j ≤ b.leadIn := by
        rw [Burst.sequenceLength, if_neg looped] at within
        rwa [Burst.leadIn, if_neg looped]
      simp only [none_, List.filter_false, List.length_nil]
      exact if_pos inside

end Sys2Proof.Machine
end

section
/-! The Post Queue's grants (R17, R22, R155) and the claims (R45 to R50): what a port is granted, a claim presented, the
examination of the wait list, and how a granted lane leaves CLAIMING (R13, R14, R60). -/

namespace Sys2Proof.Machine

section
variable {s : State}

/-! ### Questions to the Pin Table -/

theorem any_pins_iff (p : PinEntry → Bool) (s : State) :
    s.pins.toList.any p = true ↔ ∃ n : PinId, p (s.pin n) = true := by
  simp only [State.pin_eq, List.any_eq_true, Vector.get_eq_getElem, List.mem_iff_getElem]
  constructor
  · rintro ⟨_, ⟨n, inTable, rfl⟩, holds⟩
    exact ⟨⟨n, by simpa using inTable⟩, by simpa using holds⟩
  · rintro ⟨n, holds⟩
    exact ⟨_, ⟨n, by simp, rfl⟩, by simpa using holds⟩

theorem pinsHeldBy_eq (l : LaneId) (s : State) :
    pinsHeldBy l s = decide (∃ n : PinId, (s.pin n).owner = some l ∧ (s.pin n).held = true) := by
  rw [Bool.eq_iff_iff, decide_eq_true_iff, pinsHeldBy, any_pins_iff]
  simp only [Bool.and_eq_true, beq_iff_eq]

theorem forall_range_iff {p : Nat → Prop} : (∀ n ∈ List.range 48, p n) ↔ ∀ n : PinId, p n :=
  ⟨fun all n => all n (List.mem_range.mpr n.isLt), fun all n inTable => all ⟨n, List.mem_range.mp inTable⟩⟩

theorem exists_range_iff {p : Nat → Prop} : (∃ n ∈ List.range 48, p n) ↔ ∃ n : PinId, p n :=
  ⟨fun ⟨n, inTable, holds⟩ => ⟨⟨n, List.mem_range.mp inTable⟩, holds⟩,
    fun ⟨n, holds⟩ => ⟨n, List.mem_range.mpr n.isLt, holds⟩⟩

/-! ### Grants of general entries (R17, R22, R155) -/

theorem generalInUse_eq_length (q : PostQueue) :
    generalInUse q = (q.items.filter fun i => i.source == .general).length := List.countP_eq_length_filter

theorem grantContext_of_retiring {l : LaneId} {a : Active} {status : Status} {endTime : Tick}
    (active : (s.lane l).active = some a) (retiring : a.context = .retiring status endTime) :
    grantContext l s =
      (postRecord .general (completionOf l a status endTime s) (s.setLane l { s.lane l with
        active := none, skip := if status = .skipped then none else (s.lane l).skip }), [.take l]) := by
  simp only [grantContext, active, retiring]

theorem grantRetune_of_outbox {l : LaneId} {c : Completion} {rest : List Completion}
    (outbox : (s.lane l).outbox = c :: rest) :
    grantRetune l s =
      (postRecord .general { c with pinsHeld := pinsHeldBy l s } (s.setLane l { s.lane l with outbox := rest }),
        if rest = [] then [] else [.ask (.retune l)]) := by
  simp only [grantRetune, outbox]
  cases rest <;> rfl

/-- Settles O34. -/
theorem postQueueGrantsGeneralEntries : Obligations.PostQueueGrantsGeneralEntries := by
  refine ⟨fun p s => ?_, fun l a status endTime s active retiring => ?_, fun l c rest s outbox => ?_⟩
  · rw [← generalInUse_eq_length]
    exact ⟨fun room => if_pos room, fun full => if_neg full⟩
  · intro held record
    have placed : completionOf l a status endTime s = record := by
      rw [completionOf, pinsHeldBy_eq]
      rfl
    have grant := grantContext_of_retiring active retiring
    rw [placed] at grant
    exact ⟨_, grant, rfl, fun k => setLane_lane_eq s l k _⟩
  · intro held
    have grant := grantRetune_of_outbox outbox
    rw [pinsHeldBy_eq] at grant
    exact ⟨_, grant, rfl, fun k => setLane_lane_eq s l k _⟩

/-! ### A claim against the Pin Table (R45, R46) -/

theorem compatible_iff (l : LaneId) (set : Pins) (s : State) :
    compatible l set s = true
      ↔ ∀ n : PinId, set.getLsbD n = true → (s.pin n).owner = none ∨ (s.pin n).owner = some l := by
  rw [compatible, List.all_eq_true, forall_range_iff]
  refine forall_congr' fun n => ?_
  simp [pinBit, or_assoc, imp_iff_not_or]

theorem grantReleases_iff (l : LaneId) (set : Pins) (s : State) :
    grantReleases l set s = true ↔ ∃ n : PinId, (s.pin n).owner = some l ∧ set.getLsbD n = false := by
  rw [grantReleases, List.any_eq_true, exists_range_iff]
  simp [pinBit]

theorem grantClaim_pin (l : LaneId) (drive sense : Pins) (s : State) (n : PinId) :
    (grantClaim l drive sense s).pin n =
      if (drive ||| sense).getLsbD n = true then (s.pin n).claim l (roleOf drive sense n)
      else if (s.pin n).owner = some l then (s.pin n).released else s.pin n := by
  rw [State.pin_eq, State.pin_eq]
  exact mapTable_get _ s.pins n

theorem roleOf_eq (drive sense : Pins) (n : Nat) :
    roleOf drive sense n =
      if drive.getLsbD n = false then .sense else if sense.getLsbD n = false then .drive else .both := by
  simp only [roleOf, pinBit]
  rcases Bool.eq_false_or_eq_true (drive.getLsbD n) with driven | driven
  · rcases Bool.eq_false_or_eq_true (sense.getLsbD n) with sensed | sensed <;> simp [driven, sensed]
  · simp [driven]

/-! ### A granted lane leaves CLAIMING (R13, R14, R60 to R63, R101) -/

theorem startWait_eq (b : Burst) (now : Tick) :
    startWait b now =
      if b.startMode = .atTime ∧ due b.startTime now = false then .timeWait b.startTime false
      else .timeWait (now + 1) (b.startMode = .atTime) := by
  by_cases atTime : b.startMode = .atTime
  · cases passed : due b.startTime now <;> simp [startWait, atTime, passed]
  · simp [startWait, atTime]

theorem leavesClaiming_claimGranted {l : LaneId} {a : Active} (active : (s.lane l).active = some a)
    (claiming : a.context = .claiming) : LeavesClaiming l a s (claimGranted l s).1 (claimGranted l s).2 := by
  refine ⟨fun alone => ?_, fun group => ?_⟩
  · have waits : claimGranted l s = (setContext l a (startWait (burstOf a.record) s.timebase) s, []) := by
      simp only [claimGranted, active, claiming, if_neg alone]
    rw [waits, startWait_eq]
    exact ⟨rfl, rfl, fun k => setLane_lane_eq s l k _⟩
  · have arrives : claimGranted l s = arriveAtGroup l a s := by
      simp only [claimGranted, active, claiming, if_pos group]
    rw [arrives]
    refine ⟨fun x accepted => ?_, fun refused => ?_⟩
    · have joins : arriveAtGroup l a s =
          (setContext l a .groupWait (s.setGroup (burstOf a.record).group x), []) := by
        simp only [arriveAtGroup, accepted]
      rw [joins]
      refine ⟨rfl, rfl, fun k => ?_, fun k => setLane_lane_eq _ l k _⟩
      refine (State.group_setGroup s _ k x).trans ?_
      exact if_congr eq_comm rfl rfl
    · have retires : arriveAtGroup l a s = retire l { a with context := .groupWait } .groupMismatch s := by
        simp only [arriveAtGroup, refused]
      rw [retires]
      exact retires_retire l _ _ s

/-- Settles O27. -/
theorem claimsAreGrantedRefusedOrWait : Obligations.ClaimsAreGrantedRefusedOrWait := by
  intro l a s active claiming b inSet free
  have member (n : PinId) : b.pinSet.getLsbD n = true ↔ inSet n := by simp [Burst.pinSet, inSet]
  have fits : compatible l b.pinSet s = true ↔ free :=
    (compatible_iff l b.pinSet s).trans (forall_congr' fun n => imp_congr (member n) .rfl)
  refine ⟨fun taken waits => ?_, fun taken impatient => ?_, fun free => ?_⟩
  · simp only [presentClaim, show ¬ compatible l (burstOf a.record).pinSet s = true from mt fits.1 taken,
      show (burstOf a.record).waitPins = true from waits, if_true, Bool.false_eq_true, if_false]
    rfl
  · have refused : presentClaim l a s = retire l a .pinConflict s := by
      simp only [presentClaim, show ¬ compatible l (burstOf a.record).pinSet s = true from mt fits.1 taken,
        show (burstOf a.record).waitPins = false from impatient, Bool.false_eq_true, if_false]
    rw [refused]
    exact ⟨_, _, rfl, retires_retire l a .pinConflict s⟩
  · have granted : presentClaim l a s =
        ((claimGranted l (grantClaim l b.drive b.sense s)).1,
          (claimGranted l (grantClaim l b.drive b.sense s)).2 ++ tasksIf (grantReleases l b.pinSet s) [.examine]) := by
      simp only [presentClaim, show compatible l (burstOf a.record).pinSet s = true from fits.2 free, if_true]
      rfl
    have releases : tasksIf (grantReleases l b.pinSet s) [Task.examine] =
        if ∃ n : PinId, (s.pin n).owner = some l ∧ ¬ inSet n then [.examine] else [] := by
      refine if_congr ((grantReleases_iff l b.pinSet s).trans ?_) rfl rfl
      exact exists_congr fun n => and_congr_right fun _ => by rw [← member, Bool.not_eq_true]
    have lane : ((grantClaim l b.drive b.sense s).lane l).active = some a := active
    rw [granted, releases]
    refine ⟨grantClaim l b.drive b.sense s, _, _, rfl, fun n => ?_, rfl, leavesClaiming_claimGranted lane claiming⟩
    rw [grantClaim_pin, ← roleOf_eq]
    exact ⟨fun mine => if_pos ((member n).2 mine), fun other => if_neg (mt (member n).1 other)⟩

end

end Sys2Proof.Machine
end

section
/-! The examination of the claim wait list (R50): one pass, and passes until one in which no grant released pins. -/

namespace Sys2Proof.Machine

section
variable {s : State}

/-! ### One pass -/

theorem examinePass_of_compatible {c : Claim} (fits : compatible c.lane (c.drive ||| c.sense) s = true)
    (cs : List Claim) :
    examinePass (c :: cs) s =
      let r := examinePass cs (grantClaim c.lane c.drive c.sense s)
      (r.1, c.lane :: r.2.1, grantReleases c.lane (c.drive ||| c.sense) s || r.2.2) := if_pos fits

theorem examinePass_of_not_compatible {c : Claim} (taken : ¬ compatible c.lane (c.drive ||| c.sense) s = true)
    (cs : List Claim) :
    examinePass (c :: cs) s =
      let r := examinePass cs s
      ({ r.1 with claims := c :: r.1.claims }, r.2.1, r.2.2) := if_neg taken

/-- What a pass over the claims `cs` from `s` leaves: the claims that stay, the lanes granted, whether a grant released
pins. -/
structure Passed (cs : List Claim) (s : State) (r : State × List LaneId × Bool) : Prop where
  rest : r.1 = { s with pins := r.1.pins, claims := r.1.claims }
  stays : r.1.claims.Sublist cs
  leaves : (r.1.claims.map Claim.lane ++ r.2.1).Perm (cs.map Claim.lane)
  granted : r.2.2 = true → r.2.1 ≠ []
  owned : r.2.2 = false → ∀ (n : PinId) (l : LaneId), (s.pin n).owner = some l → (r.1.pin n).owner = some l
  blocked : r.2.2 = false → ∀ c ∈ r.1.claims, ∃ (n : PinId) (l : LaneId), (c.drive ||| c.sense).getLsbD n = true
    ∧ (r.1.pin n).owner = some l ∧ l ≠ c.lane

theorem not_compatible_iff (l : LaneId) (set : Pins) (s : State) :
    ¬ compatible l set s = true
      ↔ ∃ (n : PinId) (k : LaneId), set.getLsbD n = true ∧ (s.pin n).owner = some k ∧ k ≠ l := by
  rw [compatible_iff]
  push Not
  refine exists_congr fun n => ?_
  cases (s.pin n).owner <;> simp

/-- A grant that releases no pin leaves every owned pin with its owner. -/
theorem owner_grantClaim {l : LaneId} {drive sense : Pins} (fits : compatible l (drive ||| sense) s = true)
    (keeps : grantReleases l (drive ||| sense) s = false) {n : PinId} {k : LaneId}
    (owned : (s.pin n).owner = some k) : ((grantClaim l drive sense s).pin n).owner = some k := by
  rw [grantClaim_pin]
  split
  next inSet =>
    have mine := (compatible_iff l _ s).1 fits n inSet
    rw [owned] at mine
    exact (mine.resolve_left nofun).symm
  next outside =>
    rw [if_neg, owned]
    intro mine
    have releases := (grantReleases_iff l (drive ||| sense) s).2 ⟨n, mine, by simpa using outside⟩
    exact Bool.false_ne_true (keeps.symm.trans releases)

theorem passed_examinePass (cs : List Claim) (s : State) : Passed cs s (examinePass cs s) := by
  induction cs generalizing s with
  | nil =>
    exact {
      rest := rfl, stays := .refl _, leaves := .refl _, granted := nofun, owned := fun _ _ _ owned => owned
      blocked := nofun }
  | cons c cs ih =>
    by_cases fits : compatible c.lane (c.drive ||| c.sense) s = true
    · rw [examinePass_of_compatible fits]
      have later := ih (grantClaim c.lane c.drive c.sense s)
      generalize examinePass cs (grantClaim c.lane c.drive c.sense s) = r at later
      exact {
        rest := later.rest
        stays := later.stays.cons c
        leaves := (List.perm_middle).trans (later.leaves.cons c.lane)
        granted := fun _ => List.cons_ne_nil _ _
        owned := fun none_ n l owned => by
          obtain ⟨keeps, none_⟩ := Bool.or_eq_false_iff.mp none_
          exact later.owned none_ n l (owner_grantClaim fits keeps owned)
        blocked := fun none_ => later.blocked (Bool.or_eq_false_iff.mp none_).2 }
    · rw [examinePass_of_not_compatible fits]
      have later := ih s
      generalize examinePass cs s = r at later
      exact {
        rest := congrArg (fun t : State => { t with claims := c :: r.1.claims }) later.rest
        stays := later.stays.cons_cons c
        leaves := later.leaves.cons c.lane
        granted := later.granted
        owned := later.owned
        blocked := fun none_ d waiting => by
          rcases List.mem_cons.mp waiting with rfl | waiting
          · obtain ⟨n, l, inSet, owned, other⟩ := (not_compatible_iff _ _ s).1 fits
            exact ⟨n, l, inSet, later.owned none_ n l owned, other⟩
          · exact later.blocked none_ d waiting }

/-! ### Passes -/

/-- A pass that releases pins has granted a claim, so fewer stay. -/
theorem Passed.fewer {cs : List Claim} {r : State × List LaneId × Bool} (h : Passed cs s r) (released : r.2.2 = true) :
    r.1.claims.length < cs.length := by
  have count := h.leaves.length_eq
  have some_ := List.length_pos_of_ne_nil (h.granted released)
  simp only [List.length_append, List.length_map] at count
  omega

theorem examinePasses_succ (n : Nat) (s : State) :
    examinePasses (n + 1) s =
      let r := examinePass s.claims s
      if r.2.2 = true then ((examinePasses n r.1).1, r.2.1 ++ (examinePasses n r.1).2) else (r.1, r.2.1) := rfl

/-- More passes than waiting claims change nothing: the bound is never reached. -/
theorem examinePasses_of_le {m n : Nat} (s : State) (few : s.claims.length < m) (fewer : s.claims.length < n) :
    examinePasses m s = examinePasses n s := by
  induction m generalizing n s with
  | zero => exact absurd few (Nat.not_lt_zero _)
  | succ m ih =>
    obtain ⟨n, rfl⟩ := Nat.exists_eq_succ_of_ne_zero (Nat.ne_zero_of_lt fewer)
    rw [examinePasses_succ, examinePasses_succ]
    have pass := passed_examinePass s.claims s
    generalize examinePass s.claims s = r at pass
    by_cases released : r.2.2 = true
    · have less := pass.fewer released
      simp only [if_pos released, ih (n := n) r.1 (by omega) (by omega)]
    · simp only [if_neg released]

theorem examineClaims_eq (s : State) :
    examineClaims s =
      let r := examinePass s.claims s
      if r.2.2 = true then ((examineClaims r.1).1, r.2.1 ++ (examineClaims r.1).2) else (r.1, r.2.1) := by
  rw [examineClaims, examinePasses_succ]
  have pass := passed_examinePass s.claims s
  generalize examinePass s.claims s = r at pass
  by_cases released : r.2.2 = true
  · have less := pass.fewer released
    have same : examinePasses s.claims.length r.1 = examineClaims r.1 :=
      examinePasses_of_le r.1 less (Nat.lt_succ_self _)
    simp only [if_pos released, same]
  · simp only [if_neg released]

/-- What an examination leaves: pins and claims alone moved, the claims that stay in order, every one of them blocked. -/
structure Examined (s : State) (e : State × List LaneId) : Prop where
  rest : e.1 = { s with pins := e.1.pins, claims := e.1.claims }
  stays : e.1.claims.Sublist s.claims
  leaves : (e.1.claims.map Claim.lane ++ e.2).Perm (s.claims.map Claim.lane)
  blocked : ∀ c ∈ e.1.claims, ∃ (n : PinId) (l : LaneId), (c.drive ||| c.sense).getLsbD n = true
    ∧ (e.1.pin n).owner = some l ∧ l ≠ c.lane

theorem examined_examineClaims (s : State) : Examined s (examineClaims s) := by
  induction waiting : s.claims.length using Nat.strong_induction_on generalizing s with
  | _ count ih =>
    subst waiting
    rw [examineClaims_eq]
    have pass := passed_examinePass s.claims s
    generalize examinePass s.claims s = r at pass
    by_cases released : r.2.2 = true
    · have later := ih _ (pass.fewer released) r.1 rfl
      simp only [if_pos released]
      exact {
        rest := by rw [later.rest, pass.rest]
        stays := later.stays.trans pass.stays
        leaves := by
          refine .trans ?_ pass.leaves
          refine List.perm_append_comm_assoc .. |>.trans ?_
          exact (later.leaves.append_left _).trans List.perm_append_comm
        blocked := later.blocked }
    · simp only [if_neg released]
      exact {
        rest := pass.rest
        stays := pass.stays
        leaves := pass.leaves
        blocked := pass.blocked (Bool.not_eq_true _ ▸ released) }

/-- Settles O28. -/
theorem examinationGrantsEveryClaimThatFits : Obligations.ExaminationGrantsEveryClaimThatFits := by
  refine ⟨fun s => ?_, fun s c rest => ?_, fun s => rfl, examineClaims_eq, fun s => ?_,
    fun l s idle => ?_, fun l a s active claiming => ?_⟩
  · intro t
    obtain ⟨rest, stays, leaves, blocked⟩ := examined_examineClaims s
    exact ⟨rest, stays, leaves, blocked⟩
  · intro free
    refine ⟨fun fits => ?_, fun taken => examinePass_of_not_compatible (mt (compatible_iff ..).1 taken) rest⟩
    have releases : grantReleases c.lane (c.drive ||| c.sense) s =
        decide (∃ n : PinId, (s.pin n).owner = some c.lane ∧ (c.drive ||| c.sense).getLsbD n = false) := by
      rw [Bool.eq_iff_iff, decide_eq_true_iff, grantReleases_iff]
    rw [examinePass_of_compatible ((compatible_iff ..).2 fits), releases]
  · obtain ⟨n, arranged⟩ := arrange_choices (examineClaims s).2 (examineClaims s).1
    refine ⟨(arrange (examineClaims s).2 (examineClaims s).1).1, n, arrange_perm _ _, ?_⟩
    simp only [runTask, examine, arranged]
  · show claimGranted l s = (s, [])
    rw [claimGranted]
    cases active : (s.lane l).active with
    | none => rfl
    | some a =>
      have other := idle a active
      cases context : a.context with
      | claiming => exact absurd context other
      | _ => simp only [context]
  · exact ⟨_, _, rfl, leavesClaiming_claimGranted active claiming⟩

/-! ### Taking the front item (R8 to R13, R20, R137) -/

/-- The lane after its staging head has left: a skip note behind it moves up (R20). -/
def LaneState.headTaken (q : List Entry) (x : LaneState) : LaneState :=
  { x with staging := q, skip := x.skip.map fun n => { n with place := n.place - 1 } }

/-- An entry taken at `now`, as the active context holds it. -/
def Entry.taken (kind : Byte) (context : Context) (late : Bool) (blocks : List Nat) (now : Tick) (e : Entry) : Active :=
  { kind := kind, record := e.record, context := context, taken := now, startTime := now, late := late
    grouped := false, blocks := blocks, stats := ⟨0, 0, 0, 0, 0⟩ }

theorem takeFront_of_busy {l : LaneId} (busy : (s.lane l).active ≠ none ∨ (s.lane l).run = .off) :
    takeFront l s = (s, []) := if_pos (busy.imp_left Option.isSome_iff_ne_none.mpr)

section
variable {l : LaneId} (empty : (s.lane l).active = none) (runs : (s.lane l).run ≠ .off)
include empty runs

theorem takeFront_of_idle :
    takeFront l s = match (s.lane l).skip with
      | none => takeHead l s
      | some n => if n.place = 0 then takeSkip l s else takeHead l s := by
  have idle : ¬ ((s.lane l).active.isSome = true ∨ (s.lane l).run = .off) := by simp [empty, runs]
  rw [takeFront, if_neg idle] <;> rfl

theorem takeFront_of_skip {n : SkipNote} (note : (s.lane l).skip = some n) (front : n.place = 0) :
    takeFront l s = takeSkip l s := by
  rw [takeFront_of_idle empty runs, note]
  exact if_pos front

theorem takeFront_of_no_skip (behind : ∀ n, (s.lane l).skip = some n → n.place ≠ 0) :
    takeFront l s = takeHead l s := by
  rw [takeFront_of_idle empty runs]
  cases note : (s.lane l).skip with
  | none => rfl
  | some n => exact if_neg (behind n note)

end

section
variable {l : LaneId} {e : Entry} {q : List Entry}

theorem takeHead_of_ready (staging : (s.lane l).staging = e :: q) (front : e.state = .ready ∨ e.state = .failed) :
    takeHead l s = takeEntry l e (s.setLane l ((s.lane l).headTaken q)) := by
  simp only [takeHead, staging]
  exact if_pos front

theorem takeHead_of_unready (staging : (s.lane l).staging = e :: q) (unready : e.state ≠ .ready)
    (alive : e.state ≠ .failed) : takeHead l s = (s, []) := by
  simp only [takeHead, staging]
  exact if_neg (not_or.mpr ⟨unready, alive⟩)

/-- An entry that retires at once, its lane having become `y`. -/
theorem takeRetiring_setLane (kind : Byte) (record : Bytes 64) (status : Status) (late : Bool) (y : LaneState)
    (s : State) :
    takeRetiring l kind record status late (s.setLane l y) =
      (s.setLane l { y with active := some (Active.taken_ kind record [] (.retiring status s.timebase) late s.timebase) },
        [.ask (.context l)]) := by
  simp only [takeRetiring, State.setActive_eq, State.lane_setLane, if_true, State.setLane_setLane,
    State.setLane_timebase]

theorem takeEntry_of_ready (ready : e.state = .ready) (s : State) :
    takeEntry l e s = if e.kind = kindBurst then takeBurst l e s else if e.kind = kindMark then takeMark l e s
      else if e.kind = kindRelease then takeRelease l e s else takeResume l e s := by
  rw [takeEntry, if_neg (by simp [ready])]

theorem takeBurst_setLane (kind : e.kind = kindBurst) (y : LaneState) (s : State) :
    takeBurst l e (s.setLane l y) =
      presentClaim l (e.taken 1 .claiming false e.blocks s.timebase)
        (s.setLane l { y with active := some (e.taken 1 .claiming false e.blocks s.timebase) }) := by
  simp only [takeBurst, kind, State.setActive_eq, State.lane_setLane, if_true, State.setLane_setLane,
    State.setLane_timebase]
  rfl

theorem takeMark_setLane (kind : e.kind = kindMark) (y : LaneState) (s : State) :
    takeMark l e (s.setLane l y) =
      if markStartCode e.record = 0 then takeRetiring l e.kind e.record .ok false (s.setLane l y)
      else if due (markTime e.record) s.timebase then takeRetiring l e.kind e.record .ok true (s.setLane l y)
      else
        (s.setLane l { y with active := some (e.taken 3 (.timeWait (markTime e.record) false) false [] s.timebase) },
          []) := by
  have waits : (s.setLane l y).setActive l (some (Active.taken_ e.kind e.record [] (.timeWait (markTime e.record) false)
      false (s.setLane l y).timebase)) =
      s.setLane l { y with active := some (e.taken 3 (.timeWait (markTime e.record) false) false [] s.timebase) } := by
    rw [State.setActive_eq, State.setLane_setLane, State.lane_setLane, if_pos rfl, kind]
    rfl
  rw [takeMark, waits, State.setLane_timebase]

theorem takeRelease_setLane (y : LaneState) (s : State) :
    takeRelease l e (s.setLane l y) =
      ((takeRetiring l e.kind e.record .ok false ((releaseLane l s).setLane l y)).1,
        (if OwnsPin l s then [.examine] else []) ++ [.ask (.context l)]) := by
  have asks : tasksIf (ownsAny l (s.setLane l y)) [Task.examine] = if OwnsPin l s then [.examine] else [] :=
    if_congr (ownsAny_iff l s) rfl rfl
  rw [takeRelease, asks]
  rfl

theorem covered_iff (l : LaneId) (s : State) :
    covered l s = true ↔
      let covers (i : SetId) : Prop := (s.trip i).enabled = true ∧ (s.trip i).laneMask.getLsbD l.val = true
        ∧ ∀ n : PinId, (s.trip i).pinMask.getLsbD n = true →
            (s.qualifier.pin n).level = (s.trip i).pattern.getLsbD n
      covers 0 ∨ covers 1 := by
  simp only [covered, TripSet.covers, Bool.or_eq_true, Bool.and_eq_true, TripSet.condition_iff, inMask, and_assoc]

end

/-- Settles O33. -/
theorem lanesTakeTheirFrontItem : Obligations.LanesTakeTheirFrontItem := by
  intro l s x now active
  refine ⟨takeFront_of_busy, fun n empty runs note front => takeFront_of_skip empty runs note front,
    fun empty runs behind => ⟨fun none_ => ?_, fun e q staging => ?_⟩⟩
  · rw [takeFront_of_no_skip empty runs behind, takeHead, show (s.lane l).staging = [] from none_]
  · intro y retires
    rw [takeFront_of_no_skip empty runs behind]
    have taken (front : e.state = .ready ∨ e.state = .failed) := takeHead_of_ready staging front
    have retiring (status : Status) (late : Bool) (z : LaneState) (v : State) (tick : v.timebase = s.timebase) :
        takeRetiring l e.kind e.record status late (v.setLane l z) = (retires status late z v, [.ask (.context l)]) := by
      rw [takeRetiring_setLane, tick]
      rfl
    refine ⟨takeHead_of_unready staging, fun status failed given => ?_, fun ready kind => ?_, fun ready kind => ?_,
      fun ready kind => ?_, fun ready kind => ?_⟩
    · rw [taken (.inr failed), takeEntry, if_pos failed, given]
      exact retiring status false y s rfl
    · have burst : e.kind = kindBurst := kind
      rw [taken (.inl ready), takeEntry_of_ready ready, if_pos burst]
      exact takeBurst_setLane burst y s
    · have mark : e.kind = kindMark := kind
      have other : e.kind ≠ kindBurst := by rw [kind]; decide
      rw [taken (.inl ready), takeEntry_of_ready ready, if_neg other, if_pos mark, takeMark_setLane mark,
        retiring .ok false _ s rfl, retiring .ok true _ s rfl]
      exact if_congr .rfl rfl (if_congr (due_iff_sub_toNat_lt _ _) rfl rfl)
    · have release : e.kind = kindRelease := kind
      have other : e.kind ≠ kindBurst ∧ e.kind ≠ kindMark := by rw [kind]; decide
      rw [taken (.inl ready), takeEntry_of_ready ready, if_neg other.1, if_neg other.2, if_pos release,
        takeRelease_setLane, retiring .ok false _ (releaseLane l s) rfl]
      exact ⟨releaseLane l s, rfl, releaseLane_pin l s, rfl⟩
    · have other : e.kind ≠ kindBurst ∧ e.kind ≠ kindMark ∧ e.kind ≠ kindRelease := by rw [kind]; decide
      rw [taken (.inl ready), takeEntry_of_ready ready, if_neg other.1, if_neg other.2.1, if_neg other.2.2]
      intro covers
      have cover : covered l (s.setLane l ((s.lane l).headTaken q)) = true ↔ covers 0 ∨ covers 1 := covered_iff l s
      have lane : (s.setLane l ((s.lane l).headTaken q)).lane l = (s.lane l).headTaken q :=
        (State.lane_setLane s l l _).trans (if_pos rfl)
      have run : ((s.lane l).headTaken q).run = x.run := rfl
      rw [takeResume, lane, State.setLane_setLane, run]
      refine ⟨fun runs => ?_, fun tripped covering => ?_, fun tripped open_ => ?_⟩
      · rw [if_neg runs]
        exact retiring .ok false _ s rfl
      · rw [if_pos tripped, if_pos (cover.2 covering)]
        exact retiring .stillTripped false _ s rfl
      · rw [if_pos tripped, if_neg (mt cover.1 open_)]
        exact retiring .ok false _ s rfl

end

end Sys2Proof.Machine
end

section
/-! Group deadlines and start ticks (R66, R67): what the event makes of each ready member, one after the other, in terms
of the state before it. -/

namespace Sys2Proof.Machine

section
variable {s t u : State}

/-! ### The work of several lanes (R155) -/

theorem gather_eq (e : Effect) :
    ∃ (n : Nat) (asks : List Task), asks.Perm (e.2.filter fun x => x != .look && x != .examine)
      ∧ gather e = ({ e.1 with choices := n },
          (if .look ∈ e.2 then [.look] else []) ++ (if .examine ∈ e.2 then [.examine] else []) ++ asks) := by
  obtain ⟨n, arranged⟩ := arrange_choices (e.2.filter fun x => x != .look && x != .examine) e.1
  refine ⟨n, _, arrange_perm _ e.1, ?_⟩
  simp only [gather, arranged, tasksIf, List.contains_iff_mem]

theorem lanesOf_nodup (m : LaneMask) : (lanesOf m).Nodup := (by decide : allLanes.Nodup).filter _

theorem mem_lanesOf {m : LaneMask} {l : LaneId} : l ∈ lanesOf m ↔ m.getLsbD l.val = true := by
  simp [lanesOf, mem_allLanes, inMask]

theorem waitingMember_of_waiting {l : LaneId} {a : Active} (active : (s.lane l).active = some a)
    (waits : a.context = .groupWait) : waitingMember s l = some a := by simp [waitingMember, active, waits]

theorem setGroup_group_eq (s : State) (g k : GroupId) (x : Group) :
    (s.setGroup g x).group k = if k = g then x else s.group k :=
  (State.group_setGroup s g k x).trans (if_congr eq_comm rfl rfl)

theorem flatMap_ite_singleton {α β : Type} (p : α → Prop) [DecidablePred p] (f : α → β) (xs : List α) :
    (xs.flatMap fun x => if p x then [f x] else []) = (xs.filter fun x => decide (p x)).map f := by
  induction xs with
  | nil => rfl
  | cons x xs ih =>
    rw [List.flatMap_cons, ih, List.filter_cons]
    by_cases holds : p x <;> simp [holds]

/-! ### The start of the members (R66) -/

/-- The request of a starting lane's retune port (R15, R155). -/
def LaneState.startAsks (l : LaneId) (x : LaneState) : List Task :=
  if x.shadow.isSome = true ∧ x.outbox = [] then [.ask (.retune l)] else []

/-- The members `ls` have started, one after the other: `s` before, `u` after. -/
structure StartedInTurn (late : Bool) (entry : LaneId → Active) (vector : LaneId → Vec) (ls : List LaneId) (s u : State)
    (asks : List Task) : Prop where
  rest : u = { s with lanes := u.lanes, pins := u.pins }
  lanes : ∀ l, u.lane l =
    if l ∈ ls then (s.lane l).started l (entry l) late true (vector l) s.timebase else s.lane l
  pins : ∀ (n : PinId) (l : LaneId), (s.pin n).owner = some l →
    u.pin n = if l ∈ ls then (s.pin n).driven l (vector l).drive n else s.pin n
  unowned : ∀ n : PinId, (s.pin n).owner = none → u.pin n = s.pin n
  asks : asks = ls.flatMap fun l => (s.lane l).startAsks l

/-- The member's entry waits in its group and its first vector is in the store. -/
def ReadyToStart (entry : LaneId → Active) (vector : LaneId → Vec) (s : State) (l : LaneId) : Prop :=
  (s.lane l).active = some (entry l) ∧ (entry l).context = .groupWait
    ∧ vectorOf s.store (entry l).blocks ((burstOf (entry l).record).playIndex 1) = some (vector l)

theorem memberStarts_of_ready {late : Bool} {entry : LaneId → Active} {vector : LaneId → Vec} {l : LaneId}
    (ready : ReadyToStart entry vector s l) : memberStarts late l s = enterPlaying l (entry l) late true (vector l) s := by
  obtain ⟨active, waits, vector⟩ := ready
  simp only [memberStarts, waitingMember_of_waiting active waits, vectorOfPlay, vector]

theorem PinEntry.driven_owner (l : LaneId) (value : Pins) (n : PinId) (p : PinEntry) :
    (p.driven l value n).owner = p.owner := by
  rw [PinEntry.driven]
  split <;> rfl

theorem PinEntry.driven_of_other {l : LaneId} {p : PinEntry} (other : p.owner ≠ some l) (value : Pins) (n : PinId) :
    p.driven l value n = p := if_neg fun mine => other mine.1

theorem startedInTurn_eachLane {late : Bool} {entry : LaneId → Active} {vector : LaneId → Vec} {ls : List LaneId}
    (distinct : ls.Nodup) (ready : ∀ l ∈ ls, ReadyToStart entry vector s l) :
    StartedInTurn late entry vector ls s (eachLane (memberStarts late) ls s).1 (eachLane (memberStarts late) ls s).2 := by
  induction ls generalizing s with
  | nil =>
    exact {
      rest := rfl, lanes := fun l => by simp [eachLane], pins := fun n l _ => by simp [eachLane]
      unowned := fun _ _ => rfl, asks := rfl }
  | cons l ls ih =>
    obtain ⟨fresh, distinct⟩ := List.nodup_cons.mp distinct
    rw [eachLane, Effect.andThen, memberStarts_of_ready (ready l List.mem_cons_self)]
    obtain ⟨rest, pins, lanes, work⟩ := enterPlaying_frame l (entry l) late true (vector l) s
    generalize enterPlaying l (entry l) late true (vector l) s = e at rest pins lanes work ⊢
    have other (k : LaneId) (later : k ∈ ls) : e.1.lane k = s.lane k :=
      (lanes k).trans (if_neg fun same : k = l => fresh (same ▸ later))
    have store : e.1.store = s.store := by rw [rest]
    have timebase : e.1.timebase = s.timebase := by rw [rest]
    have later := ih distinct (s := e.1) fun k mem => by
      rw [ReadyToStart, other k mem, store]
      exact ready k (List.mem_cons_of_mem l mem)
    exact {
      rest := later.rest.trans (by rw [rest])
      lanes := fun k => by
        rw [later.lanes, timebase]
        by_cases mem : k ∈ ls
        · rw [if_pos mem, if_pos (List.mem_cons_of_mem l mem), other k mem]
        · rw [if_neg mem, lanes]
          by_cases here : k = l
          · subst here
            simp
          · rw [if_neg here, if_neg (by simp [here, mem])]
      pins := fun n k owned => by
        have owner : (e.1.pin n).owner = some k := by rw [pins, PinEntry.driven_owner, owned]
        rw [later.pins n k owner, pins]
        by_cases here : k = l
        · subst here
          rw [if_neg fresh, if_pos List.mem_cons_self]
        · have still : (s.pin n).driven l (vector l).drive n = s.pin n :=
            PinEntry.driven_of_other (by rw [owned]; simpa using here) _ n
          rw [still]
          exact if_congr (by simp [here]) rfl rfl
      unowned := fun n unowned => by
        have same : e.1.pin n = s.pin n := by rw [pins, PinEntry.driven_of_other (by rw [unowned]; nofun)]
        rw [later.unowned n (same ▸ unowned), same]
      asks := by
        rw [work, later.asks, List.flatMap_cons]
        exact congrArg ((s.lane l).startAsks l ++ ·) (List.flatMap_congr fun k mem => by rw [other k mem]) }

theorem memberPlayable_of_ready {entry : LaneId → Active} {vector : LaneId → Vec} {l : LaneId}
    (ready : ReadyToStart entry vector s l) : memberPlayable s l = true := by
  obtain ⟨active, waits, vector⟩ := ready
  simp [memberPlayable, waitingMember_of_waiting active waits, vectorOfPlay, vector]

/-- Tasks of the ports alone call for neither a look nor an examination. -/
theorem gather_of_asks {e : Effect} (asks : ∀ x ∈ e.2, x ≠ .look ∧ x ≠ .examine) :
    ∃ (n : Nat) (work : List Task), work.Perm e.2 ∧ gather e = ({ e.1 with choices := n }, work) := by
  obtain ⟨n, work, perm, gathered⟩ := gather_eq e
  rw [if_neg fun mem => (asks _ mem).1 rfl, if_neg fun mem => (asks _ mem).2 rfl] at gathered
  rw [List.filter_eq_self.mpr fun x mem => by simp [asks x mem]] at perm
  exact ⟨n, work, perm, gathered⟩

/-- Settles O32. -/
theorem groupStartTickStartsReadyMembers : Obligations.GroupStartTickStartsReadyMembers := by
  intro g s entry vector committed tick members
  let idle := s.setGroup g Group.idle
  obtain ⟨count, arranged⟩ := arrange_choices (lanesOf (s.group g).ready) idle
  have perm := arrange_perm (lanesOf (s.group g).ready) idle
  have fires : groupFires g s = gather (eachLane (memberStarts (s.group g).late)
      (arrange (lanesOf (s.group g).ready) idle).1 (arrange (lanesOf (s.group g).ready) idle).2) := rfl
  generalize arrange (lanesOf (s.group g).ready) idle = o at arranged perm fires
  have mem (l : LaneId) : l ∈ o.1 ↔ (s.group g).ready.getLsbD l.val = true := perm.mem_iff.trans mem_lanesOf
  have lane (l : LaneId) : o.2.lane l = s.lane l := by rw [arranged]; rfl
  have pin (n : PinId) : o.2.pin n = s.pin n := by rw [arranged]; rfl
  have inTurn := startedInTurn_eachLane (late := (s.group g).late) (s := o.2) (perm.nodup_iff.mpr (lanesOf_nodup _))
    fun l member => by
      rw [ReadyToStart, lane, show o.2.store = s.store by rw [arranged]; rfl]
      exact members l ((mem l).1 member)
  generalize eachLane (memberStarts (s.group g).late) o.1 o.2 = e at inTurn fires
  have tasks (x : Task) (called : x ∈ e.2) : x ≠ .look ∧ x ≠ .examine := by
    rw [inTurn.asks] at called
    obtain ⟨l, -, asked⟩ := List.mem_flatMap.mp called
    rw [LaneState.startAsks] at asked
    split at asked
    · rw [List.mem_singleton.mp asked]
      exact ⟨nofun, nofun⟩
    · cases asked
  obtain ⟨n, work, called, gathered⟩ := gather_of_asks tasks
  have answers : exec (.groupStartTick g) s = finish (groupFires g s) := by
    have due : groupStartDue g s = true := (groupStartDue_iff g s).2 ⟨committed, tick⟩
    have playable : (lanesOf (s.group g).ready).all (memberPlayable s) = true :=
      List.all_eq_true.mpr fun l member => memberPlayable_of_ready (members l (mem_lanesOf.1 member))
    simp only [exec, execGroupStartTick, due, playable, if_true]
  refine ⟨{ e.1 with choices := n }, work, answers.trans (by rw [fires, gathered]; rfl), ?_, fun k => ?_, fun l => ?_,
    fun p l owned => ?_, fun p unowned => ?_, called.trans ?_⟩
  · rw [inTurn.rest, arranged]
    rfl
  · have groups : e.1.groups = idle.groups := by rw [inTurn.rest, arranged]
    show e.1.groups.get k = _
    rw [groups]
    exact setGroup_group_eq s g k Group.idle
  · refine (inTurn.lanes l).trans ?_
    rw [lane, show o.2.timebase = s.timebase by rw [arranged]; rfl]
    exact if_congr (mem l) rfl rfl
  · refine (inTurn.pins p l (by rw [pin, owned])).trans ?_
    rw [pin]
    exact if_congr (mem l) rfl rfl
  · exact (inTurn.unowned p (by rw [pin, unowned])).trans (pin p)
  · rw [inTurn.asks]
    refine (perm.flatMap_right _).trans (.of_eq ?_)
    simp only [LaneState.startAsks, lane]
    rw [flatMap_ite_singleton, lanesOf, List.filter_filter]
    refine congrArg (List.map _) (List.filter_congr fun l _ => ?_)
    rw [Bool.eq_iff_iff]
    simp [inMask, and_assoc, and_comm]

/-! ### The deadline of a FORMING group (R67) -/

/-- Whether the lane's active entry waits in a group. -/
def LaneState.waitsInGroup (x : LaneState) : Bool :=
  match x.active with
  | none => false
  | some a => a.context == .groupWait

/-- Whether the lane's active entry asks for its pins to be kept (R16). -/
def LaneState.keepsPins (x : LaneState) : Bool :=
  match x.active with
  | none => false
  | some a => (burstOf a.record).holdPins

/-- Whether the lane's active entry is a BURST. -/
def LaneState.playsBurst (x : LaneState) : Bool :=
  match x.active with
  | none => false
  | some a => a.kind == 1

/-- The blocks of the lane's active entry. -/
def LaneState.memberBlocks (x : LaneState) : List Nat :=
  match x.active with
  | none => []
  | some a => a.blocks

/-- The lane after its member has failed with GROUP_TIMEOUT (R67). -/
def LaneState.timedOut (now : Tick) (x : LaneState) : LaneState :=
  { x with active := x.active.map fun a => { a with context := .retiring .groupTimeout now, blocks := [] } }

/-- A pin of lane `x` after the member has failed (R16, R55). -/
def LaneState.pinTimedOut (x : LaneState) (p : PinEntry) : PinEntry :=
  if x.playsBurst = false then p else if x.keepsPins = true then { p with held := true } else p.released

/-- The work that the failure of lane `l`'s member calls for. -/
def timeoutTasks (s : State) (l : LaneId) : List Task :=
  (if (s.lane l).memberBlocks = [] then [] else [.look])
  ++ (if OwnsPin l s ∧ (s.lane l).playsBurst = true ∧ (s.lane l).keepsPins = false then [.examine] else [])
  ++ [.ask (.context l)]

theorem look_mem_timeoutTasks (s : State) (l : LaneId) :
    .look ∈ timeoutTasks s l ↔ (s.lane l).memberBlocks ≠ [] := by
  simp only [timeoutTasks, List.mem_append, List.mem_ite_nil_left, List.mem_ite_nil_right, List.mem_singleton]
  simp

theorem examine_mem_timeoutTasks (s : State) (l : LaneId) :
    .examine ∈ timeoutTasks s l
      ↔ OwnsPin l s ∧ (s.lane l).playsBurst = true ∧ (s.lane l).keepsPins = false := by
  simp only [timeoutTasks, List.mem_append, List.mem_ite_nil_left, List.mem_ite_nil_right, List.mem_singleton]
  simp

theorem filter_timeoutTasks (s : State) (l : LaneId) :
    (timeoutTasks s l).filter (fun x => x != .look && x != .examine) = [.ask (.context l)] := by
  rw [timeoutTasks]
  split <;> split <;> rfl

/-- The members `ls` have failed, one after the other: `s` before, `u` after. -/
structure FailedInTurn (ls : List LaneId) (s u : State) (work : List Task) : Prop where
  rest : u = { s with
    lanes := u.lanes, pins := u.pins
    alloc := { s.alloc with free := s.alloc.free ++ ls.flatMap fun l => (s.lane l).memberBlocks } }
  lanes : ∀ l, u.lane l = if l ∈ ls then (s.lane l).timedOut s.timebase else s.lane l
  pins : ∀ (n : PinId) (l : LaneId), (s.pin n).owner = some l →
    u.pin n = if l ∈ ls then (s.lane l).pinTimedOut (s.pin n) else s.pin n
  unowned : ∀ n : PinId, (s.pin n).owner = none → u.pin n = s.pin n
  work : work.Perm (ls.flatMap (timeoutTasks s))

theorem FailedInTurn.nil (s : State) : FailedInTurn [] s s [] where
  rest := by simp
  lanes l := by simp
  pins n l _ := by simp
  unowned _ _ := rfl
  work := .refl _

theorem memberTimesOut_of_not_waiting {l : LaneId} (idle : (s.lane l).waitsInGroup = false) :
    memberTimesOut l s = (s, []) := by
  have none_ : waitingMember s l = none := by
    rw [waitingMember]
    rw [LaneState.waitsInGroup] at idle
    cases active : (s.lane l).active with
    | none => rfl
    | some a => simpa [active] using idle
  rw [memberTimesOut, none_]

/-- One member fails. -/
theorem failedInTurn_memberTimesOut {l : LaneId} (waits : (s.lane l).waitsInGroup = true) :
    FailedInTurn [l] s (memberTimesOut l s).1 (memberTimesOut l s).2 := by
  obtain ⟨a, active, context⟩ : ∃ a, (s.lane l).active = some a ∧ a.context = .groupWait := by
    rw [LaneState.waitsInGroup] at waits
    cases active : (s.lane l).active with
    | none => simp [active] at waits
    | some a => exact ⟨a, rfl, by simpa [active] using waits⟩
  have fails : memberTimesOut l s = retire l a .groupTimeout s := by
    rw [memberTimesOut, waitingMember_of_waiting active context]
  obtain ⟨rest, lanes, pins, work⟩ := fails ▸ retires_retire l a .groupTimeout s
  have blocks : (s.lane l).memberBlocks = a.blocks := by simp only [LaneState.memberBlocks, active]
  have keeps : (s.lane l).keepsPins = (burstOf a.record).holdPins := by simp only [LaneState.keepsPins, active]
  have burst : (s.lane l).playsBurst = (a.kind == 1) := by simp only [LaneState.playsBurst, active]
  have owning : a.context.owning = true := by rw [context]; rfl
  have kept : ((burstOf a.record).holdPins = true ∧ Status.groupTimeout ≠ .aborted ∧ Status.groupTimeout ≠ .tripped)
      ↔ (s.lane l).keepsPins = true := by rw [keeps]; simp
  have played : (s.lane l).playsBurst = true ↔ a.kind = 1 := by rw [burst]; exact beq_iff_eq
  exact {
    rest := by rw [List.flatMap_singleton, blocks]; exact rest
    lanes := fun k => by
      rw [lanes]
      by_cases here : k = l
      · subst here
        rw [if_pos rfl, if_pos (List.mem_singleton_self k), LaneState.timedOut, active]
        rfl
      · rw [if_neg here, if_neg (by simpa using here)]
    pins := fun n k owned => by
      rw [pins, owned, LaneState.pinTimedOut]
      by_cases here : k = l
      · subst here
        rw [if_pos (List.mem_singleton_self k)]
        by_cases burst : a.kind = 1
        · rw [if_pos ⟨rfl, burst, owning⟩, if_neg (c := (s.lane k).playsBurst = false) (by simp [played.2 burst])]
          exact if_congr kept rfl rfl
        · rw [if_neg fun yes => burst yes.2.1, if_pos (by simpa using mt played.1 burst)]
      · rw [if_neg fun yes => here (Option.some.inj yes.1), if_neg (by simpa using here)]
    unowned := fun n unowned => by rw [pins, if_neg fun yes => by simp [unowned] at yes]
    work := by
      refine work.trans (.of_eq ?_)
      rw [List.flatMap_singleton, timeoutTasks, blocks]
      refine congrArg (_ ++ · ++ _) (if_congr ?_ rfl rfl)
      rw [kept, played, Bool.not_eq_true]
      simp only [owning, true_and]
      tauto }

theorem LaneState.pinTimedOut_owner (x : LaneState) (p : PinEntry) :
    (x.pinTimedOut p).owner = p.owner ∨ (x.pinTimedOut p).owner = none := by
  rw [LaneState.pinTimedOut]
  split_ifs
  · exact .inl rfl
  · exact .inl rfl
  · exact .inr rfl

theorem FailedInTurn.cons {l : LaneId} {ls : List LaneId} {first later : List Task}
    (h1 : FailedInTurn [l] s t first) (h2 : FailedInTurn ls t u later) (fresh : l ∉ ls) :
    FailedInTurn (l :: ls) s u (first ++ later) := by
  have timebase : t.timebase = s.timebase := by rw [h1.rest]
  have untouched (k : LaneId) (mem : k ∈ ls) : t.lane k = s.lane k := by
    rw [h1.lanes, if_neg]
    rintro ⟨⟩
    · exact fresh mem
    · contradiction
  have owner (n : PinId) (k : LaneId) (mem : k ∈ ls) : (t.pin n).owner = some k ↔ (s.pin n).owner = some k := by
    have other : l ≠ k := fun here => fresh (here ▸ mem)
    cases owned : (s.pin n).owner with
    | none => rw [h1.unowned n owned, owned]
    | some m =>
      rw [h1.pins n m owned]
      by_cases here : m = l
      · rw [if_pos (List.mem_singleton.mpr here)]
        rcases LaneState.pinTimedOut_owner (s.lane m) (s.pin n) with same | released
        · rw [same, owned]
        · subst here
          rw [released]
          simp [other]
      · rw [if_neg (by simpa using here), owned]
  have tasks (k : LaneId) (mem : k ∈ ls) : timeoutTasks t k = timeoutTasks s k := by
    rw [timeoutTasks, timeoutTasks, untouched k mem]
    simp only [OwnsPin, owner _ k mem]
  have alloc : { t.alloc with free := t.alloc.free ++ ls.flatMap fun k => (t.lane k).memberBlocks } =
      { s.alloc with free := s.alloc.free ++ (l :: ls).flatMap fun k => (s.lane k).memberBlocks } := by
    have later : (ls.flatMap fun k => (t.lane k).memberBlocks) = ls.flatMap fun k => (s.lane k).memberBlocks :=
      List.flatMap_congr fun k mem => by rw [untouched k mem]
    have freed : t.alloc = { s.alloc with free := s.alloc.free ++ (s.lane l).memberBlocks } := by
      rw [h1.rest]
      simp
    rw [later, freed, List.flatMap_cons, ← List.append_assoc]
  exact {
    rest := h2.rest.trans (by rw [alloc, h1.rest])
    lanes := fun k => by
      rw [h2.lanes, timebase]
      by_cases later : k ∈ ls
      · rw [if_pos later, if_pos (List.mem_cons_of_mem l later), untouched k later]
      · rw [if_neg later, h1.lanes]
        exact if_congr (by simp [later]) rfl rfl
    pins := fun n k owned => by
      by_cases later : k ∈ ls
      · have same : t.pin n = s.pin n :=
          (h1.pins n k owned).trans (if_neg fun here => fresh ((List.mem_singleton.mp here : k = l) ▸ later))
        rw [h2.pins n k (by rw [same, owned]), if_pos later, if_pos (List.mem_cons_of_mem l later), same,
          untouched k later]
      · have still : u.pin n = t.pin n := by
          cases now : (t.pin n).owner with
          | none => exact h2.unowned n now
          | some m =>
            refine (h2.pins n m now).trans (if_neg fun mem => ?_)
            have mine := ((owner n m mem).1 now).symm.trans owned
            exact later (Option.some.inj mine ▸ mem)
        rw [still, h1.pins n k owned]
        exact if_congr (by simp [later]) rfl rfl
    unowned := fun n unowned => by
      have same := h1.unowned n unowned
      rw [h2.unowned n (same ▸ unowned), same]
    work := by
      rw [List.flatMap_cons]
      refine List.Perm.append ?_ ?_
      · simpa using h1.work
      · exact h2.work.trans (.of_eq (List.flatMap_congr tasks)) }

theorem failedInTurn_eachLane {ls : List LaneId} (distinct : ls.Nodup) (s : State) :
    FailedInTurn (ls.filter fun l => (s.lane l).waitsInGroup) s (eachLane memberTimesOut ls s).1
      (eachLane memberTimesOut ls s).2 := by
  induction ls generalizing s with
  | nil => exact .nil s
  | cons l ls ih =>
    obtain ⟨fresh, distinct⟩ := List.nodup_cons.mp distinct
    rw [eachLane, Effect.andThen, List.filter_cons]
    have later := ih distinct (memberTimesOut l s).1
    split
    next waits =>
      have first := failedInTurn_memberTimesOut waits
      have same : (ls.filter fun k => (s.lane k).waitsInGroup)
          = ls.filter fun k => ((memberTimesOut l s).1.lane k).waitsInGroup :=
        List.filter_congr fun k mem => by
          have other : k ∉ [l] := fun here => fresh (List.mem_singleton.mp here ▸ mem)
          rw [first.lanes, if_neg other]
      rw [← same] at later
      exact first.cons later fun mem => fresh (List.mem_filter.mp mem).1
    next idle =>
      rw [memberTimesOut_of_not_waiting (by simpa using idle)] at later ⊢
      exact later

/-- Settles O31. -/
theorem groupDeadlineFailsReadyMembers : Obligations.GroupDeadlineFailsReadyMembers := by
  intro g s forming tick ls keeps burst blocks
  let idle := s.setGroup g Group.idle
  obtain ⟨count, arranged⟩ := arrange_choices (lanesOf (s.group g).ready) idle
  have perm := arrange_perm (lanesOf (s.group g).ready) idle
  have gives : groupGivesUp g s = gather (eachLane memberTimesOut
      (arrange (lanesOf (s.group g).ready) idle).1 (arrange (lanesOf (s.group g).ready) idle).2) := rfl
  generalize arrange (lanesOf (s.group g).ready) idle = o at arranged perm gives
  have lane (l : LaneId) : o.2.lane l = s.lane l := by rw [arranged]; rfl
  have pin (n : PinId) : o.2.pin n = s.pin n := by rw [arranged]; rfl
  have owns (l : LaneId) : OwnsPin l o.2 ↔ OwnsPin l s := exists_congr fun n => by rw [pin]
  have timebase : o.2.timebase = s.timebase := by rw [arranged]; rfl
  have inTurn := failedInTurn_eachLane (perm.nodup_iff.mpr (lanesOf_nodup _)) o.2
  generalize eachLane memberTimesOut o.1 o.2 = e at inTurn gives
  have members : (o.1.filter fun l => (o.2.lane l).waitsInGroup).Perm ls := by
    refine (perm.filter _).trans (.of_eq ?_)
    rw [lanesOf, List.filter_filter]
    refine List.filter_congr fun l _ => ?_
    rw [lane, Bool.and_comm]
    rfl
  generalize (o.1.filter fun l => (o.2.lane l).waitsInGroup) = order at inTurn members
  obtain ⟨n, asks, called, gathered⟩ := gather_eq e
  have answers : exec (.groupDeadline g) s = finish (groupGivesUp g s) := by
    have due : deadlineDue g s = true := (deadlineDue_iff g s).2 ⟨forming, tick⟩
    simp only [exec, execGroupDeadline, due, if_true]
  refine ⟨{ e.1 with choices := n }, _, answers.trans (by rw [gives, gathered]; rfl), ?_, fun k => ?_, fun l => ?_,
    fun p l owned => ?_, fun p unowned => ?_, ⟨order, members, ?_⟩, asks, ?_, ?_⟩
  · rw [inTurn.rest, arranged]
    rfl
  · have groups : e.1.groups = idle.groups := by rw [inTurn.rest, arranged]
    show e.1.groups.get k = _
    rw [groups]
    exact setGroup_group_eq s g k Group.idle
  · refine (inTurn.lanes l).trans ?_
    rw [lane, timebase]
    exact if_congr members.mem_iff rfl rfl
  · refine (inTurn.pins p l (by rw [pin, owned])).trans ?_
    rw [pin, lane]
    by_cases mem : l ∈ ls
    · rw [if_pos (members.mem_iff.mpr mem), LaneState.pinTimedOut]
      exact if_congr ((or_iff_right (not_not.mpr mem)).symm) rfl rfl
    · rw [if_neg (mt members.mem_iff.mp mem), if_pos (.inl mem)]
  · exact (inTurn.unowned p (by rw [pin, unowned])).trans (pin p)
  · have alloc : e.1.alloc = _ := congrArg State.alloc inTurn.rest
    refine alloc.trans ?_
    rw [arranged]
    rfl
  · refine called.trans ((inTurn.work.filter _).trans ?_)
    rw [List.filter_flatMap]
    refine .trans (.of_eq ?_) (members.map _)
    rw [List.map_eq_flatMap]
    exact List.flatMap_congr fun l _ => filter_timeoutTasks o.2 l
  · have look : .look ∈ e.2 ↔ ∃ l ∈ ls, blocks l ≠ [] := by
      simp only [inTurn.work.mem_iff, List.mem_flatMap, members.mem_iff, look_mem_timeoutTasks, lane]
      rfl
    have examine : .examine ∈ e.2 ↔ ∃ l ∈ ls, OwnsPin l s ∧ burst l = true ∧ keeps l = false := by
      simp only [inTurn.work.mem_iff, List.mem_flatMap, members.mem_iff, examine_mem_timeoutTasks, lane, owns]
      rfl
    exact congrArg₂ (· ++ · ++ asks) (if_congr look rfl rfl) (if_congr examine rfl rfl)

end

end Sys2Proof.Machine
end

section
/-! Firings (R130 to R135): the sets of one look fire one after the other. A lane that a second firing acts on again has
been withdrawn already, so what the firings leave is one withdrawal of the lanes of all of them. -/

namespace Sys2Proof.Machine

section
variable {s t u : State}

/-! ### A second withdrawal changes nothing (R18, R19, R111) -/

/-- A lane after a firing has withdrawn it. -/
def LaneState.tripped (x : LaneState) : LaneState := { x with run := .tripped }

theorem Entry.withdrawnBy_withdrawnBy (w : Status) (e : Entry) : (e.withdrawnBy w).withdrawnBy w = e.withdrawnBy w := by
  by_cases done : e.state = .failed ∨ (e.state = .loading ∧ e.status.isSome = true)
  · have same : e.withdrawnBy w = e := if_pos done
    rw [same, same]
  · by_cases reading : e.state = .loading ∧ e.reading.isSome = true
    · have marked : e.withdrawnBy w = { e with status := some w } := by
        rw [Entry.withdrawnBy, if_neg done, if_pos reading]
      rw [marked]
      exact if_pos (.inr ⟨reading.1, rfl⟩)
    · have failed : e.withdrawnBy w =
          { e with state := .failed, status := some (e.status.getD w), blocks := [], reading := none } := by
        rw [Entry.withdrawnBy, if_neg done, if_neg reading]
      rw [failed]
      exact if_pos (.inl rfl)

theorem Entry.withdrawnBy_keeps (w : Status) (e : Entry) :
    (e.withdrawnBy w).state = .failed
      ∨ ((e.withdrawnBy w).state = .loading ∧ (e.withdrawnBy w).status.isSome = true) := by
  by_cases done : e.state = .failed ∨ (e.state = .loading ∧ e.status.isSome = true)
  · rw [Entry.withdrawnBy, if_pos done]
    exact done
  · by_cases reading : e.state = .loading ∧ e.reading.isSome = true
    · rw [Entry.withdrawnBy, if_neg done, if_pos reading]
      exact .inr ⟨reading.1, rfl⟩
    · rw [Entry.withdrawnBy, if_neg done, if_neg reading]
      exact .inl rfl

/-- A lane withdrawn once: a second withdrawal finds it as it is, frees no block and asks for nothing. -/
structure LaneState.Withdrawn (w : Status) (after : LaneState → LaneState) (l : LaneId) (now : Tick) (y : LaneState) :
    Prop where
  still : after (y.withdrawnBy w l now) = y
  freed : y.freedAtOnce = []
  asks : y.asksOnWithdrawal l = []

theorem tripped_withdrawn (l : LaneId) (now : Tick) (x : LaneState) :
    (x.withdrawnBy .tripped l now).tripped.Withdrawn .tripped LaneState.tripped l now := by
  have staging : (x.staging.map (Entry.withdrawnBy .tripped)).map (Entry.withdrawnBy .tripped) =
      x.staging.map (Entry.withdrawnBy .tripped) := by
    rw [List.map_map]
    exact List.map_congr_left fun e _ => Entry.withdrawnBy_withdrawnBy .tripped e
  have stagingFreed : ((x.staging.map (Entry.withdrawnBy .tripped)).flatMap fun e =>
      if e.state = .failed ∨ (e.state = .loading ∧ (e.status.isSome = true ∨ e.reading.isSome = true)) then []
      else e.blocks) = [] := by
    rw [List.flatMap_map, List.flatMap_eq_nil_iff]
    refine fun e _ => if_pos ((Entry.withdrawnBy_keeps .tripped e).imp_right fun ⟨loading, marked⟩ => ?_)
    exact ⟨loading, .inl marked⟩
  cases active : x.active with
  | none =>
    exact {
      still := by
        simp [LaneState.withdrawnBy, LaneState.tripped, LaneState.shadowCompletion, active, staging]
      freed := by
        simp only [LaneState.freedAtOnce, LaneState.withdrawnBy, LaneState.tripped, active, stagingFreed]
        rfl
      asks := by simp [LaneState.asksOnWithdrawal, LaneState.withdrawnBy, LaneState.tripped, active] }
  | some a =>
    cases context : a.context <;> exact {
      still := by
        simp [LaneState.withdrawnBy, LaneState.tripped, LaneState.shadowCompletion, active, context, staging]
      freed := by
        simp [LaneState.freedAtOnce, LaneState.withdrawnBy, LaneState.tripped, active, context, stagingFreed]
      asks := by simp [LaneState.asksOnWithdrawal, LaneState.withdrawnBy, LaneState.tripped, active, context] }

/-! ### Withdrawals that overlap (R131) -/

theorem getLsbD_maskOf (ls : List LaneId) (l : LaneId) : (maskOf ls).getLsbD l.val = decide (l ∈ ls) := by
  have one : ∀ k l : LaneId, (laneBit k).getLsbD l.val = decide (l = k) := by decide
  induction ls with
  | nil => simp [maskOf]
  | cons k ls ih =>
    rw [show maskOf (k :: ls) = laneBit k ||| maskOf ls from rfl, BitVec.getLsbD_or, ih, one]
    simp

theorem maskOf_append_filter (ls ms : List LaneId) :
    maskOf (ls ++ ms.filter fun l => decide (l ∉ ls)) = maskOf ls ||| maskOf ms := by
  refine BitVec.eq_of_getLsbD_eq fun i hi => ?_
  have bit (xs : List LaneId) := getLsbD_maskOf xs ⟨i, hi⟩
  simp only at bit
  rw [BitVec.getLsbD_or, bit, bit, bit]
  by_cases first : (⟨i, hi⟩ : LaneId) ∈ ls <;> simp [first]

theorem flatMap_filter_of_nil {α β : Type} {p : α → Bool} {f g : α → List β} {xs : List α}
    (none_ : ∀ x ∈ xs, p x = false → f x = []) (same : ∀ x ∈ xs, p x = true → f x = g x) :
    xs.flatMap f = (xs.filter p).flatMap g := by
  induction xs with
  | nil => rfl
  | cons x xs ih =>
    have later := ih (fun y mem => none_ y (List.mem_cons_of_mem x mem)) fun y mem => same y (List.mem_cons_of_mem x mem)
    rw [List.flatMap_cons, List.filter_cons, later]
    cases holds : p x with
    | false => rw [none_ x List.mem_cons_self holds]; rfl
    | true => rw [same x List.mem_cons_self holds]; rfl

theorem filter_filter_not_mem {α : Type} (f : α → LaneId) (ls ms : List LaneId) (xs : List α) :
    (xs.filter fun x => decide (f x ∉ ls)).filter (fun x => decide (f x ∉ ms)) =
      xs.filter fun x => decide (f x ∉ ls ++ ms.filter fun l => decide (l ∉ ls)) := by
  rw [List.filter_filter]
  refine List.filter_congr fun x _ => ?_
  by_cases first : f x ∈ ls <;> simp [first]

/-- Two withdrawals one after the other are one: of the lanes of both, each once. -/
theorem WithdrawnInTurn.append {w : Status} {after : LaneState → LaneState} {ls ms : List LaneId} {first later : List Task}
    (h1 : WithdrawnInTurn w after ls s t first) (h2 : WithdrawnInTurn w after ms t u later)
    (once : ∀ (l : LaneId) (now : Tick) (x : LaneState), (after (x.withdrawnBy w l now)).Withdrawn w after l now) :
    WithdrawnInTurn w after (ls ++ ms.filter fun l => decide (l ∉ ls)) s u (first ++ later) := by
  have timebase : t.timebase = s.timebase := by rw [h1.rest]
  have again (l : LaneId) (mem : l ∈ ls) : (t.lane l).Withdrawn w after l t.timebase := by
    rw [h1.lanes, if_pos mem, timebase]
    exact once l s.timebase _
  have untouched (l : LaneId) (other : l ∉ ls) : t.lane l = s.lane l := (h1.lanes l).trans (if_neg other)
  exact {
    rest := h2.rest.trans (by rw [h1.rest])
    lanes := fun l => by
      rw [h2.lanes]
      by_cases mem : l ∈ ls
      · rw [if_pos (List.mem_append_left _ mem), (again l mem).still, ite_self, h1.lanes, if_pos mem]
      · rw [untouched l mem, timebase]
        exact if_congr (by simp [mem]) rfl rfl
    free := by
      rw [h2.free, h1.free, List.append_assoc, List.flatMap_append]
      refine congrArg (fun bs => s.alloc.free ++ (_ ++ bs)) (flatMap_filter_of_nil (fun l _ mem => ?_) fun l _ other => ?_)
      · exact (again l (by simpa using mem)).freed
      · rw [untouched l (by simpa using other)]
    queue := by rw [h2.queue, h1.queue, filter_filter_not_mem AllocRequest.lane]
    claims := by rw [h2.claims, h1.claims, filter_filter_not_mem Claim.lane]
    pins := fun n => by
      rw [h2.pins]
      by_cases mine : ∃ l ∈ ls, (s.pin n).owner = some l
      · have now : t.pin n = (s.pin n).released := (h1.pins n).trans (if_pos mine)
        obtain ⟨l, mem, owned⟩ := mine
        rw [now, if_neg (by simp [PinEntry.released]), if_pos ⟨l, List.mem_append_left _ mem, owned⟩]
      · have now : t.pin n = s.pin n := (h1.pins n).trans (if_neg mine)
        rw [now]
        refine if_congr ⟨fun ⟨l, mem, owned⟩ => ?_, fun ⟨l, mem, owned⟩ => ?_⟩ rfl rfl
        · exact ⟨l, by simp [mem, show l ∉ ls from fun first => mine ⟨l, first, owned⟩], owned⟩
        · rcases List.mem_append.mp mem with first | second
          · exact absurd ⟨l, first, owned⟩ mine
          · exact ⟨l, (List.mem_filter.mp second).1, owned⟩
    groups := fun g => by
      rw [h2.groups, h1.groups, Group.without_eq, Group.without_eq, Group.without_eq, Group.keeping_keeping,
        ← BitVec.not_or, maskOf_append_filter]
    asks := by
      rw [h2.asks, h1.asks, List.flatMap_append]
      refine congrArg (_ ++ ·) (flatMap_filter_of_nil (fun l _ mem => ?_) fun l _ other => ?_)
      · exact (again l (by simpa using mem)).asks
      · rw [untouched l (by simpa using other)] }

/-! ### The records of the firings (R133, R134) -/

/-- Two states in which a firing reaches its TRIP record alike. -/
structure SameRecords (a b : State) : Prop where
  post : a.post = b.post
  carry : ∀ i, (a.trip i).carry = (b.trip i).carry
  writing : a.completionRing.writing = b.completionRing.writing
  timebase : a.timebase = b.timebase

theorem SameRecords.trans {a b c : State} (h : SameRecords a b) (k : SameRecords b c) : SameRecords a c :=
  ⟨h.post.trans k.post, fun i => (h.carry i).trans (k.carry i), h.writing.trans k.writing, h.timebase.trans k.timebase⟩

theorem recordFiring_sameRecords {a b : State} (same : SameRecords a b) (i : SetId) (lanes : LaneMask) :
    SameRecords (recordFiring i lanes a) (recordFiring i lanes b) := by
  obtain ⟨post, carry, writing, timebase⟩ := same
  have taken : slotInWriting i a = slotInWriting i b := by rw [slotInWriting, slotInWriting, post, writing]
  simp only [recordFiring, post, taken, timebase, carry i]
  split
  · split
    · exact {
        post := post, writing := writing, timebase := timebase
        carry := fun j => by
          simp only [State.trip_setTrip]
          split
          · rfl
          · exact carry j }
    · exact { post := rfl, writing := writing, timebase := rfl, carry := carry }
  · exact { post := by simp [postRecord, post], writing := writing, timebase := timebase, carry := carry }

theorem foldl_recordFiring_sameRecords {a b : State} (same : SameRecords a b) (lanes : SetId → LaneMask)
    (sets : List SetId) :
    SameRecords (sets.foldl (fun v i => recordFiring i (lanes i) v) a)
      (sets.foldl (fun v i => recordFiring i (lanes i) v) b) := by
  induction sets generalizing a b with
  | nil => exact same
  | cons i sets ih => exact ih (recordFiring_sameRecords same i (lanes i))

theorem recordFiring_rest (i : SetId) (lanes : LaneMask) (s : State) :
    recordFiring i lanes s =
      { s with post := (recordFiring i lanes s).post, trips := (recordFiring i lanes s).trips } := by
  simp only [recordFiring]
  split
  · split <;> rfl
  · rfl

/-- A firing changes no more of a trip set than its carry. -/
theorem recordFiring_trip (i j : SetId) (lanes : LaneMask) (s : State) :
    { (recordFiring i lanes s).trip j with carry := (s.trip j).carry } = s.trip j := by
  simp only [recordFiring]
  split
  · split
    · rw [State.trip_setTrip]
      split
      next here => rw [here]
      · rfl
    · rfl
  · rfl

/-! ### Sets that fire one after the other (R130, R131) -/

/-- The state `s` with what a withdrawal moves taken from `u`. -/
def State.withWorkOf (u s : State) : State :=
  { s with lanes := u.lanes, alloc := u.alloc, claims := u.claims, groups := u.groups, pins := u.pins }

/-- A withdrawal looks at no other block. -/
theorem WithdrawnInTurn.elsewhere {w : Status} {after : LaneState → LaneState} {ls : List LaneId} {s s' u : State}
    {asks : List Task} (h : WithdrawnInTurn w after ls s u asks) (timebase : s'.timebase = s.timebase) :
    WithdrawnInTurn w after ls (s.withWorkOf s') (u.withWorkOf (s.withWorkOf s')) asks where
  rest := rfl
  lanes l := (h.lanes l).trans (by rw [← timebase]; rfl)
  free := h.free
  queue := h.queue
  claims := h.claims
  pins := h.pins
  groups := h.groups
  asks := h.asks

/-- The lanes of set `i`'s mask that a firing acts on (R131). -/
def setLanes (s : State) (i : SetId) : List LaneId := tripLanes (s.trip i).laneMask s

/-- The firings of the sets `sets` in turn: `s` before, `u` after. -/
structure Fired (sets : List SetId) (s u : State) (asks : List Task) : Prop where
  rest : u = { s with
    lanes := u.lanes, alloc := u.alloc, claims := u.claims, groups := u.groups, pins := u.pins
    post := u.post, trips := u.trips, choices := u.choices }
  withdrawn : ∃ ls : List LaneId, ls.Nodup ∧ (∀ l, l ∈ ls ↔ ∃ i ∈ sets, l ∈ setLanes s i)
    ∧ WithdrawnInTurn .tripped LaneState.tripped ls s (u.withWorkOf s) asks
  records : SameRecords u (sets.foldl (fun v i => recordFiring i (maskOf (setLanes s i)) v) s)
  trips : ∀ i, { u.trip i with carry := (s.trip i).carry } = s.trip i

theorem Fired.nil (s : State) : Fired [] s s [] where
  rest := rfl
  withdrawn := ⟨[], .nil, by simp, .nil _ _ s⟩
  records := ⟨rfl, fun _ => rfl, rfl, rfl⟩
  trips _ := rfl

theorem fired_fireSet (i : SetId) (s : State) : Fired [i] s (fireSet i s).1 (fireSet i s).2 := by
  obtain ⟨n, arranged⟩ := arrange_choices (setLanes s i) s
  have perm := arrange_perm (setLanes s i) s
  have fires : fireSet i s = (recordFiring i (maskOf (setLanes s i))
      (eachLane (withdrawThen .tripped LaneState.tripped) (arrange (setLanes s i) s).1 (arrange (setLanes s i) s).2).1,
      (eachLane (withdrawThen .tripped LaneState.tripped) (arrange (setLanes s i) s).1
        (arrange (setLanes s i) s).2).2) := rfl
  have distinct : (setLanes s i).Nodup := (lanesOf_nodup _).filter _
  rw [fires]
  generalize arrange (setLanes s i) s = o at *
  have inTurn := withdrawnInTurn_eachLane .tripped LaneState.tripped (perm.nodup_iff.mpr distinct) o.2
  generalize eachLane (withdrawThen .tripped LaneState.tripped) o.1 o.2 = e at *
  have records : SameRecords e.1 s := by
    rw [inTurn.rest, arranged]
    exact ⟨rfl, fun _ => rfl, rfl, rfl⟩
  have trips : e.1.trips = s.trips := by rw [inTurn.rest, arranged]
  have recorded := recordFiring_rest i (maskOf (setLanes s i)) e.1
  exact {
    rest := by
      rw [recorded, inTurn.rest, arranged]
    withdrawn := by
      refine ⟨o.1, perm.nodup_iff.mpr distinct, fun l => by simp [perm.mem_iff], ?_⟩
      have moved := inTurn.elsewhere (s' := s) (by rw [arranged])
      have before : o.2.withWorkOf s = s := by rw [arranged]; rfl
      rw [before] at moved
      have after : (recordFiring i (maskOf (setLanes s i)) e.1).withWorkOf s = e.1.withWorkOf s := by
        rw [recorded]
        rfl
      rwa [after]
    records := recordFiring_sameRecords records i _
    trips := fun j => by
      have same := recordFiring_trip i j (maskOf (setLanes s i)) e.1
      have trip : e.1.trip j = s.trip j := congrArg (fun ts : Vector TripSet 2 => ts.get j) trips
      rw [trip] at same
      exact same }

theorem setLanes_eq_of_fired {sets : List SetId} {asks : List Task} (h : Fired sets s t asks) (i : SetId) :
    setLanes t i = setLanes s i := by
  obtain ⟨ls, -, members, withdrawn⟩ := h.withdrawn
  have mask : (t.trip i).laneMask = (s.trip i).laneMask := by rw [← h.trips i]
  rw [setLanes, setLanes, tripLanes, tripLanes, mask]
  refine List.filter_congr fun l _ => ?_
  have lane := withdrawn.lanes l
  rw [show (t.withWorkOf s).lane l = t.lane l from rfl] at lane
  by_cases mem : l ∈ ls
  · obtain ⟨j, -, acted⟩ := (members l).1 mem
    rw [lane, if_pos mem, (List.mem_filter.mp acted).2]
    rfl
  · rw [lane, if_neg mem]

theorem Fired.append {sets later : List SetId} {asks more : List Task} (h1 : Fired sets s t asks)
    (h2 : Fired later t u more) : Fired (sets ++ later) s u (asks ++ more) where
  rest := h2.rest.trans (by rw [h1.rest])
  withdrawn := by
    obtain ⟨ls, distinct, members, first⟩ := h1.withdrawn
    obtain ⟨ms, distinct', members', second⟩ := h2.withdrawn
    refine ⟨ls ++ ms.filter fun l => decide (l ∉ ls), ?_, fun l => ?_, ?_⟩
    · refine distinct.append (distinct'.filter _) fun l mem later => ?_
      exact absurd mem (by simpa using (List.mem_filter.mp later).2)
    · have either : l ∈ (ls ++ ms.filter fun l => decide (l ∉ ls)) ↔ l ∈ ls ∨ l ∈ ms := by
        by_cases mem : l ∈ ls <;> simp [mem]
      rw [either, members, members']
      simp only [setLanes_eq_of_fired h1, List.mem_append, or_and_right, exists_or]
    · have timebase : s.timebase = t.timebase := by rw [h1.rest]
      exact first.append (second.elsewhere timebase) tripped_withdrawn
  records := by
    have second := h2.records
    simp only [setLanes_eq_of_fired h1] at second
    rw [List.foldl_append]
    exact second.trans (foldl_recordFiring_sameRecords h1.records (fun i => maskOf (setLanes s i)) later)
  trips i := by rw [← h1.trips i, ← h2.trips i]

theorem fired_fireSets (sets : List SetId) (s : State) : Fired sets s (fireSets sets s).1 (fireSets sets s).2 := by
  induction sets generalizing s with
  | nil => exact .nil s
  | cons i sets ih => exact (fired_fireSet i s).append (ih _)

/-! ### The hand-over of a look (R116, R128 to R130) -/

theorem pinBit_changedPins (old new : Qualifier) (n : PinId) :
    pinBit (changedPins old new) n = true ↔ (new.pin n).level ≠ (old.pin n).level := by
  have bits : pinBit (changedPins old new) n = xor (old.pin n).level (new.pin n).level := by
    rw [← pinBit_qualifiedLevels, ← pinBit_qualifiedLevels]
    exact BitVec.getLsbD_xor
  rw [bits]
  cases (old.pin n).level <;> cases (new.pin n).level <;> decide

theorem concerned_iff (x : TripSet) (old new : Qualifier) :
    x.concerned (changedPins old new) = true
      ↔ x.enabled = true ∧ ∃ n : PinId, x.pinMask.getLsbD n = true ∧ (new.pin n).level ≠ (old.pin n).level := by
  rw [TripSet.concerned, Bool.and_eq_true, bne_iff_ne, Ne, and_eq_zero_iff_pins]
  push Not
  simp only [← pinBit_changedPins, pinBit, Bool.not_eq_false]

/-- The state from which the sets of a look fire. -/
def evaluated (s : State) : State :=
  { clearNotes s with
    qualifier := lookQualifier s
    trips := mapTable (fun _ x => x.evaluate (changedPins s.qualifier (lookQualifier s))
      (qualifiedLevels (lookQualifier s))) s.trips }

theorem evaluated_trip (s : State) (i : SetId) :
    (evaluated s).trip i = (s.trip i).evaluate (changedPins s.qualifier (lookQualifier s))
      (qualifiedLevels (lookQualifier s)) := mapTable_get _ s.trips i

/-- The sets that fire at a look. -/
def firingSets (s : State) : List SetId :=
  ([0, 1] : List SetId).filter fun i =>
    (s.trip i).fires (changedPins s.qualifier (lookQualifier s)) (qualifiedLevels (lookQualifier s))

/-- A look: its sets fire in some order, and then the changes reach the Capture Monitor; the work is that of one
withdrawal. -/
theorem qualifierLook_eq (s : State) :
    ∃ (order : List SetId) (e : Effect) (m n : Nat) (first : Bool), order.Perm (firingSets s)
      ∧ Fired order { evaluated s with choices := m } e.1 e.2
      ∧ (qualifierLook s).1 = { e.1 with
          choices := n
          capture := captureChanges (changedPins s.qualifier (lookQualifier s)) (qualifiedLevels (lookQualifier s))
            s.timebase (fun k => ownerSeen first ((evaluated s).pin k).owner (e.1.pin k).owner) allPins e.1.capture }
      ∧ (qualifierLook s).2.Perm
          (let ls := firedLanes (firingSets s) (evaluated s)
          (if ls = [] then [] else [.look]) ++ (if ∃ l ∈ ls, OwnsPin l (evaluated s) then [.examine] else [])
            ++ e.2 ++ ls.map .take) := by
  let count : Nat := if (firingSets s).isEmpty then (arrange (firingSets s) (evaluated s)).2.choices
    else (arrange (firingSets s) (evaluated s)).2.choices + 1
  let e := fireSets (arrange (firingSets s) (evaluated s)).1
    { (arrange (firingSets s) (evaluated s)).2 with choices := count }
  let first : Bool := Config.pick (arrange (firingSets s) (evaluated s)).2.choices 0 % 2 == 0
  let captured : State := { e.1 with
    capture := captureChanges (changedPins s.qualifier (lookQualifier s)) (qualifiedLevels (lookQualifier s))
      s.timebase (fun k => ownerSeen first ((evaluated s).pin k).owner (e.1.pin k).owner) allPins e.1.capture }
  have looks : qualifierLook s =
      afterWithdrawal (evaluated s) (firedLanes (firingSets s) (evaluated s)) (captured, e.2) := rfl
  obtain ⟨m, arranged⟩ := arrange_choices (firingSets s) (evaluated s)
  have before : { (arrange (firingSets s) (evaluated s)).2 with choices := count } =
      { evaluated s with choices := count } := by rw [arranged]
  have fired : Fired (arrange (firingSets s) (evaluated s)).1 { evaluated s with choices := count } e.1 e.2 := by
    rw [← before]
    exact fired_fireSets _ _
  obtain ⟨n, left⟩ := arrange_choices (e.2 ++ (firedLanes (firingSets s) (evaluated s)).map Task.take) captured
  refine ⟨_, e, count, n, first, arrange_perm _ (evaluated s), fired, ?_, ?_⟩
  · rw [looks]
    exact left
  · rw [looks]
    exact afterWithdrawal_work _ _ _

/-- Two states in which a withdrawal finds the same: it looks at no other block. -/
theorem Withdrawal.of_same {w : Status} {ls : List LaneId} {after : LaneState → LaneState} {s s' u u' : State}
    {work : List Task} (h : Withdrawal w ls after s u work) (before : s.withWorkOf s' = s') (left : u.withWorkOf u' = u')
    (timebase : s'.timebase = s.timebase) : Withdrawal w ls after s' u' work := by
  have lane (l : LaneId) : s'.lane l = s.lane l := by rw [← before]; rfl
  have pin (n : PinId) : s'.pin n = s.pin n := by rw [← before]; rfl
  have claims : s'.claims = s.claims := by rw [← before]; rfl
  have alloc : s'.alloc = s.alloc := by rw [← before]; rfl
  have group (g : GroupId) : s'.group g = s.group g := by rw [← before]; rfl
  rw [← left]
  exact {
    lanes := fun l => by rw [lane, timebase]; exact h.lanes l
    free := by
      obtain ⟨order, perm, free⟩ := h.free
      refine ⟨order, perm, ?_⟩
      simp only [alloc, lane]
      exact free
    queue := by rw [alloc]; exact h.queue
    claims := by rw [claims]; exact h.claims
    pins := fun n => by rw [pin]; exact h.pins n
    groups := fun g => by rw [group]; exact h.groups g
    work := by simpa only [OwnsPin, pin, lane] using h.work }

theorem TripSet.evaluate_carry (changed levels : Pins) (x : TripSet) : (x.evaluate changed levels).carry = x.carry := by
  rw [TripSet.evaluate]
  split <;> rfl

theorem TripSet.evaluate_laneMask (changed levels : Pins) (x : TripSet) :
    (x.evaluate changed levels).laneMask = x.laneMask := by
  rw [TripSet.evaluate]
  split <;> rfl

/-- An evaluation moves the mark alone. -/
theorem TripSet.evaluate_rest (changed levels : Pins) (x : TripSet) :
    { x.evaluate changed levels with armed := x.armed } = x := by
  rw [TripSet.evaluate]
  split <;> rfl

theorem tripActs_eq (r : RunState) : r.tripActs = decide (r = .run ∨ r = .tripped ∨ r = .faulted) := by
  cases r <;> rfl

theorem tripLanes_eq (m : LaneMask) (s : State) :
    tripLanes m s = allLanes.filter fun l => m.getLsbD l.val
      && decide ((s.lane l).run = .run ∨ (s.lane l).run = .tripped ∨ (s.lane l).run = .faulted) := by
  simp only [tripLanes, lanesOf, List.filter_filter, tripActs_eq, inMask, Bool.and_comm]

theorem setLanes_evaluated (s : State) (m : Nat) (i : SetId) :
    setLanes { evaluated s with choices := m } i = tripLanes (s.trip i).laneMask s := by
  rw [setLanes, show ({ evaluated s with choices := m } : State).trip i = (evaluated s).trip i from rfl,
    evaluated_trip, TripSet.evaluate_laneMask]
  rfl

theorem firedLanes_evaluated (sets : List SetId) (s : State) :
    firedLanes sets (evaluated s) =
      allLanes.filter fun l => decide (∃ i ∈ sets, l ∈ tripLanes (s.trip i).laneMask s) := by
  refine List.filter_congr fun l _ => ?_
  rw [Bool.eq_iff_iff, decide_eq_true_iff, List.any_eq_true]
  refine exists_congr fun i => and_congr_right fun _ => ?_
  rw [evaluated_trip, TripSet.evaluate_laneMask, tripLanes, List.mem_filter, mem_lanesOf, Bool.and_eq_true]
  rfl

theorem withWorkOf_evaluated (s : State) (m : Nat) :
    ({ evaluated s with choices := m } : State).withWorkOf
        { s with pins := s.pins.map fun p => { p with earlier := none } } =
      { s with pins := s.pins.map fun p => { p with earlier := none } } := by
  have pins : mapTable (fun _ p => ({ p with earlier := none } : PinEntry)) s.pins =
      s.pins.map fun p => { p with earlier := none } := by
    refine Vector.ext fun i hi => ?_
    have entry := mapTable_get (fun _ p => ({ p with earlier := none } : PinEntry)) s.pins ⟨i, hi⟩
    rw [Vector.get_eq_getElem] at entry
    rw [Vector.getElem_map]
    exact entry
  show { s with pins := mapTable (fun _ p => ({ p with earlier := none } : PinEntry)) s.pins } = _
  rw [pins]

theorem fires_iff (x : TripSet) (old new : Qualifier) :
    x.fires (changedPins old new) (qualifiedLevels new) = true
      ↔ x.enabled = true ∧ x.armed = true
        ∧ (∃ n : PinId, x.pinMask.getLsbD n = true ∧ (new.pin n).level ≠ (old.pin n).level)
        ∧ ∀ n : PinId, x.pinMask.getLsbD n = true → (new.pin n).level = x.pattern.getLsbD n := by
  rw [TripSet.fires, Bool.and_eq_true, Bool.and_eq_true, concerned_iff, TripSet.condition_iff]
  tauto

/-- A set that is concerned is armed afterwards exactly when its condition is false (R130). -/
theorem evaluate_armed (x : TripSet) (old new : Qualifier) :
    (x.evaluate (changedPins old new) (qualifiedLevels new)).armed =
      if x.enabled = true ∧ ∃ n : PinId, x.pinMask.getLsbD n = true ∧ (new.pin n).level ≠ (old.pin n).level then
        decide (∃ n : PinId, x.pinMask.getLsbD n = true ∧ (new.pin n).level ≠ x.pattern.getLsbD n)
      else x.armed := by
  have condition : (!x.condition (qualifiedLevels new)) =
      decide (∃ n : PinId, x.pinMask.getLsbD n = true ∧ (new.pin n).level ≠ x.pattern.getLsbD n) := by
    rw [Bool.eq_iff_iff, decide_eq_true_iff, Bool.not_eq_true', TripSet.not_condition_iff]
  rw [← condition, TripSet.evaluate, ← if_congr (concerned_iff x old new) rfl rfl]
  split <;> rfl

/-- Settles O45. -/
theorem tripSetsFireOnTheirPattern : Obligations.TripSetsFireOnTheirPattern := by
  intro s
  obtain ⟨order, e, m, n, first, perm, fired, looked, called⟩ := qualifierLook_eq s
  have qualifier : (qualifierLook s).1.qualifier = lookQualifier s := (qualifierLook_firingFrame s).qualifier
  intro u level fires acted ls
  have levels (p : PinId) : level p = ((lookQualifier s).pin p).level := by
    show ((qualifierLook s).1.qualifier.pin p).level = _
    rw [qualifier]
  have firing (i : SetId) : (s.trip i).fires (changedPins s.qualifier (lookQualifier s))
      (qualifiedLevels (lookQualifier s)) = fires i := by
    rw [Bool.eq_iff_iff, fires_iff]
    simp only [fires, levels, Bool.and_eq_true, decide_eq_true_iff, and_assoc]
  have memOrder (i : SetId) : i ∈ order ↔ fires i = true := by
    have all : ∀ i : SetId, i ∈ ([0, 1] : List SetId) := by decide
    rw [perm.mem_iff, firingSets, List.mem_filter, firing]
    exact and_iff_right (all i)
  have actedOn (i : SetId) : tripLanes (s.trip i).laneMask s = acted (s.trip i).laneMask := tripLanes_eq _ s
  have lanes : firedLanes (firingSets s) (evaluated s) = ls := by
    rw [firedLanes_evaluated]
    refine List.filter_congr fun l _ => decide_eq_decide.mpr (exists_congr fun i => ?_)
    rw [← perm.mem_iff, memOrder, actedOn]
  have trips (i : SetId) : { u.trip i with carry := (s.trip i).carry } =
      (s.trip i).evaluate (changedPins s.qualifier (lookQualifier s)) (qualifiedLevels (lookQualifier s)) := by
    have same := fired.trips i
    rw [show ({ evaluated s with choices := m } : State).trip i = (evaluated s).trip i from rfl, evaluated_trip,
      TripSet.evaluate_carry] at same
    rw [← same]
    show { (qualifierLook s).1.trip i with carry := (s.trip i).carry } = _
    rw [looked]
    rfl
  refine ⟨fun i => ?_, fun i => ?_, ?_, order, ?_, ?_⟩
  · have armed : (u.trip i).armed = ((s.trip i).evaluate (changedPins s.qualifier (lookQualifier s))
        (qualifiedLevels (lookQualifier s))).armed := (congrArg TripSet.armed (trips i) :)
    rw [armed, evaluate_armed]
    simp only [levels]
  · have rest := congrArg (fun x : TripSet => { x with armed := (s.trip i).armed }) (trips i)
    exact rest.trans (TripSet.evaluate_rest _ _ _)
  · obtain ⟨ls', distinct, members, inTurn⟩ := fired.withdrawn
    have same : ls'.Perm ls := by
      refine (List.perm_ext_iff_of_nodup distinct ((by decide : allLanes.Nodup).filter _)).mpr fun l => ?_
      rw [members]
      simp only [memOrder, setLanes_evaluated, actedOn, List.mem_filter, mem_allLanes, true_and, decide_eq_true_iff]
    rw [lanes] at called
    refine (inTurn.withdrawal same called).of_same (withWorkOf_evaluated s m) ?_ rfl
    show State.withWorkOf (e.1.withWorkOf _) (qualifierLook s).1 = (qualifierLook s).1
    rw [looked]
    rfl
  · exact perm.trans (.of_eq (List.filter_congr fun i _ => firing i))
  · have start : SameRecords { evaluated s with choices := m } s :=
      ⟨rfl, fun i => by
        rw [show ({ evaluated s with choices := m } : State).trip i = (evaluated s).trip i from rfl, evaluated_trip,
          TripSet.evaluate_carry], rfl, rfl⟩
    have records := fired.records
    simp only [setLanes_evaluated, actedOn] at records
    have final := records.trans
      (foldl_recordFiring_sameRecords start (fun i => maskOf (acted (s.trip i).laneMask)) order)
    have post : u.post = e.1.post := by
      show (qualifierLook s).1.post = _
      rw [looked]
    have carry (i : SetId) : (u.trip i).carry = (e.1.trip i).carry := by
      show ((qualifierLook s).1.trip i).carry = _
      rw [looked]
      rfl
    exact ⟨post.trans final.post, fun i => (carry i).trans (final.carry i)⟩

/-! ### Capture records (R118 to R121) -/

theorem captureChanges_eq_foldl (changed levels : Pins) (now : Tick) (owner : Nat → Option LaneId) (ns : List PinId)
    (c : Capture) :
    captureChanges changed levels now owner ns c =
      ns.foldl (fun (c : Capture) (n : PinId) => if pinBit changed n then c.change n (pinBit levels n) now (owner n) else c) c := by
  induction ns generalizing c with
  | nil => rfl
  | cons n ns ih => exact ih _

/-- Whether a change to `level` is watched (R118). -/
abbrev Watch.Watches (w : Watch) (level : Bool) : Prop :=
  w = .both ∨ (w = .rise ∧ level = true) ∨ (w = .fall ∧ level = false)

theorem Watch.sees_iff (w : Watch) (level : Bool) : w.sees level = true ↔ w.Watches level := by
  cases w <;> cases level <;> decide

theorem Capture.change_eq (n : PinId) (level : Bool) (now : Tick) (owner : Option LaneId) (c : Capture) :
    c.change n level now owner =
      { pins := c.pins.set n.val { c.pins.get n with previous := some now } n.isLt
        fifo :=
          if (c.pins.get n).watch.Watches level ∧ c.fifo.length < 32 then
            c.fifo ++ [{ time := now, pin := n, level := level, owner := owner, dropped := c.dropped
                         previous := (c.pins.get n).previous.getD 0 }]
          else c.fifo
        dropped :=
          if (c.pins.get n).watch.Watches level then
            (if c.fifo.length < 32 then 0 else BitVec.ofNat 16 (min (c.dropped.toNat + 1) 65535))
          else c.dropped } := by
  have seen := Watch.sees_iff (c.pins.get n).watch level
  by_cases watched : (c.pins.get n).watch.Watches level
  · have sees := seen.2 watched
    by_cases room : c.fifo.length < 32
    · simp only [Capture.change, Capture.push, Config.captureDepth, sees, watched, room, if_true, and_self]
      rfl
    · simp only [Capture.change, Capture.push, Capture.drop, countUp_eq_min, Config.captureDepth, sees, watched, room,
        if_true, if_false, and_false]
      rfl
  · simp only [Capture.change, mt seen.1 watched, watched, Bool.false_eq_true, if_false, false_and]
    rfl

theorem ownerSeen_cases (first : Bool) (before after : Option LaneId) :
    ownerSeen first before after = before ∨ ownerSeen first before after = after := by
  rw [ownerSeen]
  split
  · exact .inl rfl
  · cases first
    · exact .inr rfl
    · exact .inl rfl

/-- Settles O44. -/
theorem watchedChangesMakeCaptureRecords : Obligations.WatchedChangesMakeCaptureRecords := by
  intro s
  obtain ⟨order, e, m, n, first, -, fired, looked, -⟩ := qualifierLook_eq s
  have qualifier : (qualifierLook s).1.qualifier = lookQualifier s := (qualifierLook_firingFrame s).qualifier
  refine ⟨fun k => ownerSeen first ((evaluated s).pin k).owner (e.1.pin k).owner, ?_⟩
  intro u
  have owners (k : PinId) : ((evaluated s).pin k).owner = (s.pin k).owner := by
    show ((clearNotes s).pin k).owner = _
    rw [clearNotes_pin]
  have now (k : PinId) : (u.pin k).owner = (e.1.pin k).owner := by
    show ((qualifierLook s).1.pin k).owner = _
    rw [looked]
    rfl
  refine ⟨fun k => ?_, ?_⟩
  · exact (ownerSeen_cases first _ _).imp (fun seen => seen.trans (owners k)) fun seen => seen.trans (now k).symm
  · have before : e.1.capture = s.capture := by rw [fired.rest]; rfl
    have capture : u.capture = captureChanges (changedPins s.qualifier (lookQualifier s))
        (qualifiedLevels (lookQualifier s)) s.timebase
        (fun k => ownerSeen first ((evaluated s).pin k).owner (e.1.pin k).owner) allPins e.1.capture := by
      show (qualifierLook s).1.capture = _
      rw [looked]
    have levels : u.qualifier = lookQualifier s := qualifier
    rw [capture, captureChanges_eq_foldl, before, levels, allPins]
    refine congrArg (fun f => (List.finRange 48).foldl f s.capture) (funext fun c => funext fun k => ?_)
    have changed := pinBit_changedPins s.qualifier (lookQualifier s) k
    by_cases same : ((lookQualifier s).pin k).level = (s.qualifier.pin k).level
    · rw [if_neg (mt changed.1 (not_not.mpr same)), if_pos same]
    · rw [if_pos (changed.2 same), if_neg same, Capture.change_eq, pinBit_qualifiedLevels]

end

end Sys2Proof.Machine
end

section
/-! The tick's one look (R83, R113 to R116, R119): the raw levels, when the look may be taken, and what it reads. -/

namespace Sys2Proof.Machine

section
variable {s t : State}

/-! ### Raw levels (R114) -/

theorem receive_eq (s : State) (n : PinId) (output : Level) :
    receive s n output =
      if s.outside.hold.getLsbD n = true ∨ output = .float then s.outside.level.getLsbD n
      else decide (output = .high) := by
  simp only [receive, pinBit]
  cases output <;> simp

theorem ownLevel_eq (s : State) (n : PinId) :
    ownLevel s n = match (s.pin n).earlier with
      | none => rawLevel s n
      | some out => if s.outside.hold.getLsbD n = true ∨ out = .float then s.outside.level.getLsbD n
          else decide (out = .high) := by
  cases note : (s.pin n).earlier with
  | none => exact ownLevel_of_no_note note
  | some out => rw [ownLevel, note, receive_eq]; rfl

/-! ### When the look may be taken (R116) -/

theorem finish_takeLook (s : State) :
    finish (takeLook s) = .next (hostPort (if lookReady s = true then settle (qualifierLook s) else s)) := by
  rcases takeLook_cases s with ⟨ready, look⟩ | ⟨unready, nothing⟩
  · rw [look, if_pos ready]
    rfl
  · rw [nothing, if_neg (by simp [unready]), finish, settle_nil]

theorem timedEvents_eq_nil_iff (s : State) :
    timedEvents s = [] ↔
      ∀ i ∈ tickEvents s, i = .qualifierSample ∨ i = .rawLevelChange s.outside.level s.outside.hold := by
  constructor
  · intro last i own
    rcases (mem_tickEvents_iff i s).1 own with ⟨sample, -⟩ | ⟨change, -⟩ | ⟨e, due, -⟩
    · exact .inl sample
    · exact .inr change
    · have left := (mem_timedEvents_iff e s).2 due
      rw [last] at left
      cases left
  · intro looks
    refine List.eq_nil_iff_forall_not_mem.mpr fun e left => ?_
    have own := (mem_tickEvents_iff (timedCommand e) s).2 (.inr (.inr ⟨e, (mem_timedEvents_iff e s).1 left, rfl⟩))
    have other := looks _ own
    cases e <;> rcases other with other | other <;> cases other

theorem levelStands_iff (s u v : State) (n : Nat) :
    levelStands s u v n = true ↔ rawLevel v n = rawLevel u n
      ∨ ((u.qualifier.pin n).level ≠ (s.qualifier.pin n).level
          ∧ ((v.pin n).owner ≠ (u.pin n).owner ∨ (v.pin n).role ≠ (u.pin n).role)) := by
  simp [levelStands]

theorem lookReady_iff_levels (s : State) :
    lookReady s = true ↔
      (s.qualifier.looked = false ∨ s.qualifier.nextSample = s.timebase) ∧ s.pending = []
      ∧ (timedEvents s = []
        ∨ ∀ n : PinId, (s.pin n).qualifierCount = 0 ∨ s.qualifier.nextSample = s.timebase →
            levelStands s (afterLook s) (restOfTick 64 (afterLook s)) n = true) := by
  have read (n : PinId) : (!readByLook s n || levelStands s (afterLook s) (restOfTick 64 (afterLook s)) n) = true
      ↔ ((s.pin n).qualifierCount = 0 ∨ s.qualifier.nextSample = s.timebase →
          levelStands s (afterLook s) (restOfTick 64 (afterLook s)) n = true) := by
    rw [Bool.or_eq_true, Bool.not_eq_true', ← Bool.not_eq_true, ← imp_iff_not_or]
    simp [readByLook, sampleDue]
  rw [lookReady_iff, sampleDue_iff, levelsStand, Bool.and_eq_true, Bool.or_eq_true, List.isEmpty_iff, List.isEmpty_iff,
    List.all_eq_true, Config.tickEventBound, forall_range_iff]
  simp only [read]

/-! ### The rest of a tick -/

/-- With no look to come, the tick's events are the timed ones. -/
theorem tickEvents_of_no_look (none_ : s.window.device ≠ .on ∨ lookReady s = false) :
    tickEvents s = (timedEvents s).map timedCommand := by
  have sample : sampleReady s = false := by
    rw [← Bool.not_eq_true, sampleReady_iff]
    rintro ⟨on, -, ready⟩
    rcases none_ with off | unready
    · exact off on
    · exact Bool.false_ne_true (unready.symm.trans ready)
  have look : levelLookDue s = false := by
    rw [← Bool.not_eq_true, levelLookDue_iff]
    rintro ⟨on, -, ready, -⟩
    rcases none_ with off | unready
    · exact off on
    · exact Bool.false_ne_true (unready.symm.trans ready)
  simp [tickEvents, sample, look]

theorem pickOne_map {α β : Type} (f : α → β) (xs : List α) (n : Nat) : pickOne (xs.map f) n = (pickOne xs n).map f := by
  simp only [pickOne, List.length_map]
  split
  · exact List.head?_map
  · exact List.getElem?_map

theorem timedEvents_withChoices (s : State) (n : Nat) : timedEvents { s with choices := n } = timedEvents s := rfl

/-- With no look to come, a step of an empty queue takes the timed event that `restOfTick` takes. -/
theorem restOfTick_succ_of_no_look (queue : s.pending = [])
    (none_ : ∀ n, s.window.device ≠ .on ∨ lookReady { s with choices := n } = false) (left : tickEvents s ≠ [])
    (h : step s = .next t) (n : Nat) : restOfTick (n + 1) s = restOfTick n t := by
  let counted : State := { s with choices := s.choices + 1 }
  have some_ : timedEvents s ≠ [] := by
    rw [tickEvents_of_no_look (none_ s.choices)] at left
    exact mt (fun last => by rw [last]; rfl) left
  have more : (timedEvents s).isEmpty = false := by simpa using some_
  have timed : chooseEvent timedEvents s = (pickOne (timedEvents counted) s.choices, counted) := by
    simp [chooseEvent, more, counted]
  have own : ownEvent s = ((pickOne (timedEvents counted) s.choices).map timedCommand, counted) := by
    rw [← pickOne_map, ← tickEvents_of_no_look (s := counted) (none_ (s.choices + 1))]
    simp [ownEvent, chooseEvent, more, counted]
  obtain ⟨empty, -⟩ | ⟨e, -, picked⟩ := pickOne_mem (timedEvents counted) s.choices
  · exact absurd empty some_
  · have taken : step s = runTimed e counted := by
      simp only [step, queue, idle, own, picked, Option.map_some, exec_timedCommand]
    simp only [restOfTick, timed, picked, taken ▸ h]

/-! ### Once the look has been taken (R116) -/

theorem qualifier_of_looked {c : Instr} (h : exec c s = .next t) (on : s.window.device = .on) (still : t.window.device = .on)
    (looked : s.qualifier.looked = true) (offGrid : s.qualifier.nextSample ≠ s.timebase) : t.qualifier = s.qualifier := by
  have off : sampleDue s = false := by simpa [sampleDue] using offGrid
  by_cases moves : movesQualifier c = true
  · cases c with
    | reset | powerOn | resetPin =>
      rw [← Host.Outcome.next.inj h] at still
      cases still
    | disable =>
      simp only [exec, execDisable, on, reduceCtorEq, if_false] at h
      rw [window_of_finishState h] at still
      cases still
    | rawLevelChange level hold =>
      have unready : lookReady (setOutside level hold s) = false := lookReady_of_looked looked off
      simp only [exec, execRawLevelChange, on, if_true, finish_takeLook, unready, Bool.false_eq_true, if_false] at h
      exact (Steady.finishState (s := s) (u := setOutside level hold s) ⟨rfl, rfl⟩ h).qualifier
    | qualifierSample =>
      simp only [exec, execQualifierSample, off, Bool.false_eq_true, and_false, if_false] at h
      exact (Steady.finishState (.refl s) h).qualifier
    | setupReadReturn reply =>
      have same : setupReturn reply s = s := by
        rcases setupReturn_cases reply s with same | ⟨r, configuring, -⟩
        · exact same
        · rw [on] at configuring
          cases configuring
      simp only [exec, execSetupReadReturn, same] at h
      exact (Steady.finishState (.refl s) h).qualifier
    | completionWriteError | captureWriteError =>
      simp only [exec, execCompletionWriteError, execCaptureWriteError] at h
      split at h
      · exact (Steady.finishState (.refl s) h).qualifier
      · rw [window_of_finishState h] at still
        cases still
    | _ => cases moves
  · exact (exec_steady (by simpa using moves) h).qualifier

/-! ### What a look reads (R114, R115, R119) -/

theorem look_eq (c : Nat) (sampling raw : Bool) (p : QualifiedPin) :
    p.look c sampling raw =
      if c = 0 then ⟨raw, 0⟩
      else if sampling = false then p
      else if raw = p.level then ⟨p.level, 0⟩
      else if p.stability < c then ⟨p.level, p.stability + 1⟩
      else ⟨raw, 0⟩ := by
  cases sampling <;> rfl

theorem lookQualifier_pin (s : State) (n : PinId) :
    (lookQualifier s).pin n =
      let p := s.qualifier.pin n
      let c := (s.pin n).qualifierCount
      let look (raw : Bool) : QualifiedPin :=
        if c = 0 then ⟨raw, 0⟩
        else if s.qualifier.nextSample ≠ s.timebase then p
        else if raw = p.level then ⟨p.level, 0⟩
        else if p.stability < c then ⟨p.level, p.stability + 1⟩
        else ⟨raw, 0⟩
      if (look (ownLevel s n)).level ≠ p.level then look (ownLevel s n) else look (rawLevel s n) := by
  have sampling : sampleDue s = false ↔ s.qualifier.nextSample ≠ s.timebase := by simp [sampleDue]
  rw [Qualifier.pin_eq, Qualifier.pin_eq, lookQualifier_pins, lookPins_get]
  simp only [look_eq, sampling]

theorem Withdrawal.claims_of_tripped {w : Status} {ls : List LaneId} {s u : State} {work : List Task}
    (h : Withdrawal w ls LaneState.tripped s u work) :
    u.claims.Sublist s.claims ∧ ∀ c ∈ s.claims, c ∉ u.claims → (u.lane c.lane).run = .tripped := by
  rw [h.claims]
  refine ⟨List.filter_sublist, fun c mem gone => ?_⟩
  have withdrawn : c.lane ∈ ls := by simpa [mem] using gone
  rw [h.lanes, if_pos withdrawn]
  rfl

/-- The claims that a look's firings take off the list are those of lanes it has tripped (R53, R131). -/
theorem claims_qualifierLook (s : State) :
    (qualifierLook s).1.claims.Sublist s.claims
      ∧ ∀ c ∈ s.claims, c ∉ (qualifierLook s).1.claims → ((qualifierLook s).1.lane c.lane).run = .tripped := by
  obtain ⟨-, -, withdrawal, -⟩ := tripSetsFireOnTheirPattern s
  exact withdrawal.claims_of_tripped

/-- Settles O43. -/
theorem qualifierFollowsAndSamples : Obligations.QualifierFollowsAndSamples := by
  refine ⟨fun s n => receive_eq s n _, ownLevel_eq, fun level hold s off => ?_, fun level hold s on => ?_,
    fun s on due => ?_, fun s => ?_, fun n s queue quiet => ⟨rfl, fun none_ => ?_, fun left t h => ?_⟩,
    fun c s t h on still looked offGrid => qualifier_of_looked h on still looked offGrid, fun s => ?_⟩
  · simp only [exec, execRawLevelChange, if_neg off]
    exact finishState_of_portQuiet (portQuiet_of_not_on off)
  · intro v
    simp only [exec, execRawLevelChange, if_pos on]
    exact finish_takeLook v
  · simp only [exec, execQualifierSample, on, (sampleDue_iff s).2 due, and_self, if_true]
    exact finish_takeLook s
  · rw [lookReady_iff_levels, timedEvents_eq_nil_iff]
    simp only [levelStands_iff]
    rfl
  · exact restOfTick_last (timedEvents_of_no_event none_) n
  · refine restOfTick_succ_of_no_look queue (fun m => quiet.imp_right fun ⟨looked, offGrid⟩ => ?_) left h n
    exact lookReady_of_looked looked (by simpa [sampleDue] using offGrid)
  · intro u
    have frame := qualifierLook_firingFrame s
    have qualifier : u.qualifier = lookQualifier s := frame.qualifier
    obtain ⟨sublist, tripped⟩ := claims_qualifierLook s
    rw [qualifier]
    refine ⟨rfl, lookQualifier_pin s, rfl, ?_, frame.window, frame.timebase, frame.store, frame.outside,
      frame.completionRing, frame.captureRing, frame.interrupt, frame.port, frame.waiting, frame.lastLane,
      frame.pending, sublist, tripped⟩
    rw [lookQualifier_nextSample]
    exact if_congr (sampleDue_iff s) rfl rfl

end

end Sys2Proof.Machine
end

section
/-! The work of an event ends (R8, R29, R50, R155): each piece uses up what is left to do, so the bound on the pieces is
never reached, and what one piece does next is said by `settle` itself. -/

namespace Sys2Proof.Machine

section
variable {s t u : State}

/-! ### What is left to do -/

/-- The pieces of work an active context can still call for: four for one that claims, one for one that retires. -/
def Active.workLeft (a : Active) : Nat :=
  match a.context with
  | .claiming => 4
  | .retiring _ _ => 1
  | _ => 0

/-- Whether the active entry is the lane's skip note, on its way to its record. -/
def Active.isSkip (a : Active) : Bool :=
  match a.context with
  | .retiring status _ => status == .skipped
  | _ => false

/-- The pieces a skip note can still call for. -/
def LaneState.skipLeft (x : LaneState) : Nat :=
  if x.skip.isSome = true ∧ x.active.any Active.isSkip = false then 2 else 0

/-- The pieces of work a lane can still call for. -/
def LaneState.workLeft (x : LaneState) : Nat :=
  5 * x.staging.length + x.outbox.length + x.active.elim 0 Active.workLeft + x.skipLeft

/-- The pieces of work a state can still call for. -/
def workLeft (s : State) : Nat := (allLanes.map fun l => (s.lane l).workLeft).sum + s.claims.length

theorem workLeft_of_lane {l : LaneId} {y : LaneState} (lanes : ∀ k, u.lane k = if k = l then y else s.lane k)
    (claims : u.claims = s.claims) : workLeft u + (s.lane l).workLeft = workLeft s + y.workLeft := by
  have counts := count_lanes_of_others (l := l) (f := fun k => (u.lane k).workLeft) (g := fun k => (s.lane k).workLeft)
    fun k other => by rw [lanes, if_neg other]
  rw [lanes l, if_pos rfl] at counts
  simp only [workLeft, claims]
  omega

theorem workLeft_of_same (lanes : ∀ k, u.lane k = s.lane k) (claims : u.claims = s.claims) :
    workLeft u = workLeft s := by simp only [workLeft, lanes, claims]

theorem LaneState.workLeft_le (x : LaneState) : x.workLeft ≤ 5 * x.staging.length + x.outbox.length + 6 := by
  have context : x.active.elim 0 Active.workLeft ≤ 4 := by
    cases x.active with
    | none => exact Nat.zero_le _
    | some a =>
      rw [Option.elim_some, Active.workLeft]
      split <;> omega
  have skip : x.skipLeft ≤ 2 := by
    rw [LaneState.skipLeft]
    split <;> omega
  rw [LaneState.workLeft]
  omega

theorem add_workLeft_le_workBound (s : State) (ts : List Task) : ts.length + workLeft s ≤ workBound s ts := by
  have h0 := (s.lane 0).workLeft_le
  have h1 := (s.lane 1).workLeft_le
  have h2 := (s.lane 2).workLeft_le
  have h3 := (s.lane 3).workLeft_le
  simp only [workLeft, workBound, stagedCount, allLanes, List.map_cons, List.map_nil, List.sum_cons, List.sum_nil]
  omega

/-! ### Each piece uses some of it up -/

/-- The pieces that `work` calls for and what is left after it fit into what was left before, with `n` to spare. -/
def UsesUp (n : Nat) (s : State) (e : Effect) : Prop := e.2.length + workLeft e.1 ≤ workLeft s + n

theorem LaneState.workLeft_of_claiming {x : LaneState} {a : Active} (active : x.active = some a)
    (claiming : a.context = .claiming) :
    x.workLeft = 5 * x.staging.length + x.outbox.length + 4 + if x.skip.isSome = true then 2 else 0 := by
  simp [LaneState.workLeft, LaneState.skipLeft, active, Active.workLeft, Active.isSkip, claiming]

theorem LaneState.workLeft_of_empty {x : LaneState} (active : x.active = none) :
    x.workLeft = 5 * x.staging.length + x.outbox.length + if x.skip.isSome = true then 2 else 0 := by
  simp [LaneState.workLeft, LaneState.skipLeft, active]

theorem LaneState.workLeft_of_retiring {x : LaneState} {a : Active} {status : Status} {now : Tick}
    (active : x.active = some a) (retiring : a.context = .retiring status now) :
    x.workLeft = 5 * x.staging.length + x.outbox.length + 1
      + if x.skip.isSome = true ∧ status ≠ .skipped then 2 else 0 := by
  simp [LaneState.workLeft, LaneState.skipLeft, active, Active.workLeft, Active.isSkip, retiring]

theorem LaneState.workLeft_of_waiting {x : LaneState} {a : Active} (active : x.active = some a)
    (owning : a.context.owning = true) :
    x.workLeft = 5 * x.staging.length + x.outbox.length + if x.skip.isSome = true then 2 else 0 := by
  cases context : a.context <;>
    simp_all [LaneState.workLeft, LaneState.skipLeft, Active.workLeft, Active.isSkip, Context.owning]

theorem ite_and_le (p q : Prop) [Decidable p] [Decidable q] : (if p ∧ q then 2 else 0) ≤ if p then 2 else 0 := by
  by_cases hp : p
  · rw [if_pos hp]
    split <;> decide
  · rw [if_neg hp, if_neg fun both => hp both.1]

theorem Retires.length_le {l : LaneId} {a : Active} {status : Status} {work : List Task}
    (h : Retires l a status s u work) : work.length ≤ 3 := by
  rw [h.work.length_eq]
  simp only [List.length_append]
  split <;> split <;> simp

/-- A claiming entry that retires. -/
theorem Retires.usesUp {l : LaneId} {a₀ a : Active} {status : Status} {work : List Task}
    (h : Retires l a status s u work) (active : (s.lane l).active = some a₀) (claiming : a₀.context = .claiming) :
    UsesUp 0 s (u, work) := by
  have few := h.length_le
  have counts := workLeft_of_lane h.lanes (by rw [h.rest])
  have skip : (if (s.lane l).skip.isSome = true ∧ status ≠ .skipped then 2 else 0) ≤
      if (s.lane l).skip.isSome = true then 2 else 0 := ite_and_le _ _
  rw [LaneState.workLeft_of_claiming active claiming, LaneState.workLeft_of_retiring rfl rfl] at counts
  dsimp only at counts
  simp only [UsesUp]
  omega

/-- A granted lane that leaves CLAIMING. -/
theorem LeavesClaiming.usesUp {l : LaneId} {a : Active} {work : List Task} (h : LeavesClaiming l a s u work)
    (active : (s.lane l).active = some a) (claiming : a.context = .claiming) : UsesUp 0 s (u, work) := by
  have waits {x : Active} (owning : x.context.owning = true)
      (lanes : ∀ k, u.lane k = if k = l then { s.lane l with active := some x } else s.lane k)
      (claims : u.claims = s.claims) (none_ : work = []) : UsesUp 0 s (u, work) := by
    have counts := workLeft_of_lane lanes claims
    rw [LaneState.workLeft_of_claiming active claiming, LaneState.workLeft_of_waiting rfl owning] at counts
    dsimp only at counts
    simp only [UsesUp, none_, List.length_nil]
    omega
  by_cases group : (burstOf a.record).startMode = .group
  · cases arrives : (s.group (burstOf a.record).group).arrive l (arrivalOf (burstOf a.record)) s.timebase with
    | none => exact ((h.2 group).2 arrives).usesUp active claiming
    | some x =>
      obtain ⟨none_, rest, -, lanes⟩ := (h.2 group).1 x arrives
      exact waits rfl lanes (by rw [rest]) none_
  · obtain ⟨none_, rest, lanes⟩ := h.1 group
    refine waits ?_ lanes (by rw [rest]) none_
    split <;> rfl

theorem claimGranted_of_not_claiming {l : LaneId}
    (idle : ∀ a, (s.lane l).active = some a → a.context ≠ .claiming) : claimGranted l s = (s, []) :=
  examinationGrantsEveryClaimThatFits.2.2.2.2.2.1 l s idle

theorem usesUp_claimGranted (l : LaneId) (s : State) : UsesUp 0 s (claimGranted l s) := by
  by_cases claims : ∃ a, (s.lane l).active = some a ∧ a.context = .claiming
  · obtain ⟨a, active, claiming⟩ := claims
    exact (leavesClaiming_claimGranted active claiming).usesUp active claiming
  · rw [claimGranted_of_not_claiming fun a active claiming => claims ⟨a, active, claiming⟩]
    simp [UsesUp]

/-- A claim presented leaves at most one examination or waiting claim more. -/
theorem usesUp_presentClaim {l : LaneId} {a : Active} (active : (s.lane l).active = some a)
    (claiming : a.context = .claiming) : UsesUp 1 s (presentClaim l a s) := by
  obtain ⟨waits, refused, granted⟩ := claimsAreGrantedRefusedOrWait l a s active claiming
  by_cases free : ∀ n : PinId, ((burstOf a.record).drive.getLsbD n = true ∨ (burstOf a.record).sense.getLsbD n = true) →
      (s.pin n).owner = none ∨ (s.pin n).owner = some l
  · obtain ⟨g, u, work, pins, -, presents, leaves⟩ := granted free
    have lane : (g.lane l).active = some a := by rw [pins]; exact active
    have fits := leaves.usesUp lane claiming
    have same : workLeft g = workLeft s := workLeft_of_same (fun k => by rw [pins]; rfl) (by rw [pins])
    rw [presents]
    simp only [UsesUp, List.length_append] at fits ⊢
    split <;> simp <;> omega
  · cases patient : (burstOf a.record).waitPins with
    | true =>
      rw [waits free patient]
      simp only [UsesUp, workLeft, List.length_append, List.length_cons, List.length_nil]
      exact Nat.le_of_eq (by rw [Nat.zero_add, ← Nat.add_assoc]; rfl)
    | false =>
      obtain ⟨u, work, presents, retires⟩ := refused free patient
      rw [presents]
      exact (retires.usesUp active claiming).trans (Nat.le_succ _)

/-! ### Ports -/

theorem usesUp_nothing (n : Nat) (s : State) : UsesUp n s (s, []) := by
  rw [UsesUp, List.length_nil, Nat.zero_add]
  exact Nat.le_add_right _ _

/-- Whether the entry is RETIRING. -/
def Active.IsRetiring (a : Active) : Prop := ∃ status endTime, a.context = .retiring status endTime

theorem grantContext_of_not_retiring {l : LaneId} (idle : ∀ a, (s.lane l).active = some a → ¬ a.IsRetiring) :
    grantContext l s = (s, []) := by
  rw [grantContext]
  cases active : (s.lane l).active with
  | none => rfl
  | some a =>
    cases context : a.context with
    | retiring status endTime => exact absurd ⟨status, endTime, context⟩ (idle a active)
    | _ => simp only [context]

theorem usesUp_grantContext (l : LaneId) (s : State) : UsesUp 0 s (grantContext l s) := by
  by_cases retires : ∃ a status endTime, (s.lane l).active = some a ∧ a.context = .retiring status endTime
  · obtain ⟨a, status, endTime, active, retiring⟩ := retires
    rw [grantContext_of_retiring active retiring]
    have counts := workLeft_of_lane (s := s) (u := postRecord .general (completionOf l a status endTime s)
      (s.setLane l { s.lane l with active := none, skip := if status = .skipped then none else (s.lane l).skip }))
      (fun k => setLane_lane_eq s l k _) rfl
    rw [LaneState.workLeft_of_retiring active retiring, LaneState.workLeft_of_empty rfl] at counts
    dsimp only at counts
    simp only [UsesUp, List.length_singleton]
    by_cases skipped : status = .skipped
    · simp only [skipped, if_true, ne_eq, not_true, and_false, if_false] at counts ⊢
      simp at counts
      omega
    · simp only [skipped, if_false, ne_eq, not_false_eq_true, and_true] at counts ⊢
      omega
  · rw [grantContext_of_not_retiring fun a active ⟨status, endTime, retiring⟩ =>
      retires ⟨a, status, endTime, active, retiring⟩]
    exact usesUp_nothing 0 s

theorem usesUp_grantRetune (l : LaneId) (s : State) : UsesUp 0 s (grantRetune l s) := by
  cases outbox : (s.lane l).outbox with
  | nil =>
    have nothing : grantRetune l s = (s, []) := by rw [grantRetune, outbox]
    rw [nothing]
    exact usesUp_nothing 0 s
  | cons c rest =>
    rw [grantRetune_of_outbox outbox]
    have counts := workLeft_of_lane (s := s) (u := postRecord .general { c with pinsHeld := pinsHeldBy l s }
      (s.setLane l { s.lane l with outbox := rest })) (fun k => setLane_lane_eq s l k _) rfl
    simp only [LaneState.workLeft, LaneState.skipLeft, outbox, List.length_cons] at counts
    simp only [UsesUp]
    split <;> simp only [List.length_nil, List.length_singleton] <;> omega

theorem usesUp_askPort (p : Port) (s : State) : UsesUp 0 s (askPort p s) := by
  rcases askPort_cases p s with ⟨-, -, granted⟩ | waits
  · rw [granted]
    cases p with
    | context l => exact usesUp_grantContext l s
    | retune l => exact usesUp_grantRetune l s
  · rw [waits]
    exact Nat.le_of_eq ((Nat.zero_add _).trans (workLeft_of_same (fun _ => rfl) rfl))

/-! ### Examinations -/

theorem usesUp_examine (s : State) : UsesUp 0 s (examine s) := by
  obtain ⟨order, n, perm, examines⟩ := examinationGrantsEveryClaimThatFits.2.2.2.2.1 s
  obtain ⟨rest, -, leaves, -⟩ := examined_examineClaims s
  have count := leaves.length_eq
  simp only [List.length_append, List.length_map] at count
  rw [show examine s = _ from examines]
  have lanes (k : LaneId) : (examineClaims s).1.lane k = s.lane k := by rw [rest]; rfl
  simp only [UsesUp, List.length_map, perm.length_eq, workLeft]
  rw [show (allLanes.map fun l => (({ (examineClaims s).1 with choices := n } : State).lane l).workLeft) =
    allLanes.map fun l => (s.lane l).workLeft from List.map_congr_left fun k _ => congrArg LaneState.workLeft (lanes k)]
  omega

/-! ### Taking the front item -/

/-- The lane `y` that stands for lane `l` once the head of its staging queue has gone. -/
structure HeadGone (s : State) (l : LaneId) (y : LaneState) : Prop where
  empty : (s.lane l).active = none
  staging : (s.lane l).staging.length = y.staging.length + 1
  outbox : y.outbox.length = (s.lane l).outbox.length
  skip : y.skip.isSome = (s.lane l).skip.isSome

section
variable {l : LaneId} {y : LaneState} (gone : HeadGone s l y)
include gone

theorem usesUp_takeRetiring (kind : Byte) (record : Bytes 64) (status : Status) (late : Bool) :
    (takeRetiring l kind record status late (s.setLane l y)).2.length
      + workLeft (takeRetiring l kind record status late (s.setLane l y)).1 + 3 ≤ workLeft s := by
  obtain ⟨empty, staging, outbox, skip⟩ := gone
  rw [takeRetiring_setLane]
  have counts := workLeft_of_lane (s := s) (fun k => setLane_lane_eq s l k { y with
    active := some (Active.taken_ kind record [] (.retiring status s.timebase) late s.timebase) }) rfl
  rw [LaneState.workLeft_of_empty empty, LaneState.workLeft_of_retiring rfl rfl] at counts
  dsimp only at counts
  rw [skip] at counts
  have less : (if (s.lane l).skip.isSome = true ∧ status ≠ .skipped then 2 else 0) ≤
      if (s.lane l).skip.isSome = true then 2 else 0 := ite_and_le _ _
  simp only [List.length_singleton]
  omega

theorem usesUp_takeMark (e : Entry) (mark : e.kind = kindMark) : UsesUp 0 s (takeMark l e (s.setLane l y)) := by
  have retires (late : Bool) := usesUp_takeRetiring gone e.kind e.record .ok late
  rw [takeMark_setLane mark]
  split
  · exact (Nat.le_add_right _ 3).trans (retires false)
  · split
    · exact (Nat.le_add_right _ 3).trans (retires true)
    · obtain ⟨empty, staging, outbox, skip⟩ := gone
      have counts := workLeft_of_lane (s := s) (fun k => setLane_lane_eq s l k { y with
        active := some (e.taken 3 (.timeWait (markTime e.record) false) false [] s.timebase) }) rfl
      rw [LaneState.workLeft_of_empty empty, LaneState.workLeft_of_waiting rfl rfl] at counts
      dsimp only at counts
      rw [skip] at counts
      simp only [UsesUp, List.length_nil]
      omega

theorem usesUp_takeRelease (e : Entry) : UsesUp 0 s (takeRelease l e (s.setLane l y)) := by
  have released : HeadGone (releaseLane l s) l y := ⟨gone.empty, gone.staging, gone.outbox, gone.skip⟩
  have retires := usesUp_takeRetiring released e.kind e.record .ok false
  have same : workLeft (releaseLane l s) = workLeft s := workLeft_of_same (fun _ => rfl) rfl
  rw [takeRelease_setLane]
  simp only [UsesUp, List.length_append, List.length_singleton]
  split <;> simp only [List.length_nil, List.length_singleton] <;> omega

theorem usesUp_takeResume (e : Entry) : UsesUp 0 s (takeResume l e (s.setLane l y)) := by
  have resumed : HeadGone s l { y with run := .run } := ⟨gone.empty, gone.staging, gone.outbox, gone.skip⟩
  have lane : (s.setLane l y).lane l = y := (State.lane_setLane s l l y).trans (if_pos rfl)
  rw [takeResume, lane, State.setLane_setLane]
  split
  · split
    · exact (Nat.le_add_right _ 3).trans (usesUp_takeRetiring gone ..)
    · exact (Nat.le_add_right _ 3).trans (usesUp_takeRetiring resumed ..)
  · exact (Nat.le_add_right _ 3).trans (usesUp_takeRetiring gone ..)

theorem usesUp_takeBurst (e : Entry) (burst : e.kind = kindBurst) : UsesUp 0 s (takeBurst l e (s.setLane l y)) := by
  obtain ⟨empty, staging, outbox, skip⟩ := gone
  let claiming := { y with active := some (e.taken 1 .claiming false e.blocks s.timebase) }
  have counts := workLeft_of_lane (s := s) (fun k => setLane_lane_eq s l k claiming) rfl
  rw [LaneState.workLeft_of_empty empty, LaneState.workLeft_of_claiming rfl rfl] at counts
  have lane : ((s.setLane l claiming).lane l).active = some (e.taken 1 .claiming false e.blocks s.timebase) := by
    rw [State.lane_setLane, if_pos rfl]
  have presented := usesUp_presentClaim lane rfl
  rw [takeBurst_setLane burst]
  dsimp only [claiming] at counts presented
  rw [skip] at counts
  simp only [UsesUp] at presented ⊢
  omega

theorem usesUp_takeEntry (e : Entry) : UsesUp 0 s (takeEntry l e (s.setLane l y)) := by
  rw [takeEntry]
  split
  · exact (Nat.le_add_right _ 3).trans (usesUp_takeRetiring gone ..)
  · split
    next burst => exact usesUp_takeBurst gone e burst
    · split
      next mark => exact usesUp_takeMark gone e mark
      · split
        · exact usesUp_takeRelease gone e
        · exact usesUp_takeResume gone e

end

theorem usesUp_takeSkip {l : LaneId} {n : SkipNote} (empty : (s.lane l).active = none)
    (note : (s.lane l).skip = some n) : UsesUp 0 s (takeSkip l s) := by
  have counts := workLeft_of_lane (s := s) (fun k => setLane_lane_eq s l k { s.lane l with
    active := some (Active.taken_ kindSkip noRecord [] (.retiring .skipped s.timebase) false s.timebase) }) rfl
  rw [LaneState.workLeft_of_empty empty, LaneState.workLeft_of_retiring rfl rfl] at counts
  dsimp only at counts
  have two : (if (s.lane l).skip.isSome = true then 2 else 0) = 2 := by rw [note]; rfl
  rw [if_neg (c := _ ∧ Status.skipped ≠ .skipped) fun both => both.2 rfl, two] at counts
  simp only [UsesUp, takeSkip, takeRetiring, State.setActive_eq, List.length_singleton]
  omega

theorem usesUp_takeHead {l : LaneId} (empty : (s.lane l).active = none) : UsesUp 0 s (takeHead l s) := by
  cases staging : (s.lane l).staging with
  | nil =>
    have nothing : takeHead l s = (s, []) := by rw [takeHead, staging]
    rw [nothing]
    exact usesUp_nothing 0 s
  | cons e q =>
    by_cases front : e.state = .ready ∨ e.state = .failed
    · have gone : HeadGone s l ((s.lane l).headTaken q) := ⟨empty, by rw [staging]; rfl, rfl, Option.isSome_map⟩
      rw [takeHead_of_ready staging front]
      exact usesUp_takeEntry gone e
    · obtain ⟨unready, alive⟩ := not_or.mp front
      rw [takeHead_of_unready staging unready alive]
      exact usesUp_nothing 0 s

theorem usesUp_takeFront (l : LaneId) (s : State) : UsesUp 0 s (takeFront l s) := by
  by_cases busy : (s.lane l).active ≠ none ∨ (s.lane l).run = .off
  · rw [takeFront_of_busy busy]
    exact usesUp_nothing 0 s
  · obtain ⟨empty, runs⟩ := not_or.mp busy
    have empty : (s.lane l).active = none := not_not.mp empty
    rw [takeFront_of_idle empty runs]
    split
    · exact usesUp_takeHead empty
    next note =>
      split
      · exact usesUp_takeSkip empty note
      · exact usesUp_takeHead empty

/-- Every piece of work but the allocator's look uses up what is left. -/
theorem usesUp_runTask {x : Task} (other : x ≠ .look) (s : State) : UsesUp 0 s (runTask x s) := by
  cases x with
  | look => exact absurd rfl other
  | examine => exact usesUp_examine s
  | granted l => exact usesUp_claimGranted l s
  | ask p => exact usesUp_askPort p s
  | take l => exact usesUp_takeFront l s

end

end Sys2Proof.Machine
end

section
/-! The work of an event, piece by piece: `settle` does the next piece, then settles the rest (R8, R29, R50). -/

namespace Sys2Proof.Machine

section
variable {s : State} {ts rest : List Task} {x : Task}

/-! ### The next piece -/

theorem waits_iff (x : Task) : x.waits = true ↔ x = .look ∨ x = .examine := by cases x <;> simp [Task.waits]

theorem nextTask_append_cons {pre post : List Task} (ready : x.waits = false) (wait : ∀ y ∈ pre, y.waits = true) :
    nextTask (pre ++ x :: post) = some (x, pre ++ post) := by
  have first : (pre ++ x :: post).find? (fun t => !t.waits) = some x :=
    List.find?_eq_some_iff_append.2 ⟨by simp [ready], pre, post, rfl, fun y inPre => by simp [wait y inPre]⟩
  have later : x ∉ pre := fun inPre => Bool.false_ne_true (ready.symm.trans (wait x inPre))
  simp only [nextTask, first]
  rw [List.erase_append_right _ later, List.erase_cons_head]

theorem nextTask_of_examine (wait : ∀ y ∈ ts, y.waits = true) (asked : .examine ∈ ts) :
    nextTask ts = some (.examine, ts.filter (· ≠ .examine)) := by
  have none_ : ts.find? (fun t => !t.waits) = none := List.find?_eq_none.2 fun y inList => by simp [wait y inList]
  simp only [nextTask, none_, List.contains_iff_mem, if_pos asked]
  exact congrArg (fun rest => some (Task.examine, rest)) (List.filter_congr fun y _ => by rw [Bool.eq_iff_iff]; simp)

theorem nextTask_of_look (looks : ∀ y ∈ ts, y = .look) (some_ : ts ≠ []) : nextTask ts = some (.look, []) := by
  rcases nextTask_cases ts with ⟨pre, y, post, rfl, -, ready, -⟩ | ⟨-, asked, -⟩ | ⟨-, -, next⟩ | ⟨none_, -⟩
  · exact absurd ((waits_iff y).2 (.inl (looks y (by simp)))) (by simp [ready])
  · exact absurd (looks _ asked) (by decide)
  · exact next
  · exact absurd none_ some_

theorem length_of_nextTask (next : nextTask ts = some (x, rest)) : rest.length + 1 ≤ ts.length := by
  rcases nextTask_cases ts with ⟨pre, y, post, rfl, -, -, is⟩ | ⟨-, asked, is⟩ | ⟨-, some_, is⟩ | ⟨-, is⟩ <;>
    rw [is] at next <;> cases next
  · simp only [List.length_append, List.length_cons]
    omega
  · exact List.length_filter_lt_length_iff_exists.2 ⟨_, asked, by decide⟩
  · exact List.length_pos_of_ne_nil some_

/-- The allocator's look comes when nothing else is left. -/
theorem rest_of_nextTask_look (next : nextTask ts = some (.look, rest)) : rest = [] := by
  rcases nextTask_cases ts with ⟨pre, y, post, rfl, -, ready, is⟩ | ⟨-, -, is⟩ | ⟨-, -, is⟩ | ⟨-, is⟩ <;>
    rw [is] at next <;> cases next
  · cases ready
  · rfl

/-- A piece that does not wait stays until it is done. -/
theorem mem_rest_of_nextTask {y : Task} (next : nextTask ts = some (x, rest)) (ready : y.waits = false) (left : y ∈ ts)
    (other : y ≠ x) : y ∈ rest := by
  have unready : y ≠ .look ∧ y ≠ .examine := not_or.1 (mt (waits_iff y).2 (by simp [ready]))
  rcases nextTask_cases ts with ⟨pre, z, post, rfl, -, -, is⟩ | ⟨-, -, is⟩ | ⟨looks, -, -⟩ | ⟨-, is⟩
  · rw [is] at next
    cases next
    simpa [other] using left
  · rw [is] at next
    cases next
    exact List.mem_filter.2 ⟨left, by simpa using unready.2⟩
  · exact absurd (looks y left) unready.1
  · rw [is] at next
    cases next

/-! ### The bound is never reached -/

theorem runTasks_nil (n : Nat) (s : State) : runTasks n [] s = s := by cases n <;> rfl

theorem runTasks_of_nextTask (n : Nat) (next : nextTask ts = some (x, rest)) (s : State) :
    runTasks (n + 1) ts s = runTasks n (rest ++ (runTask x s).2) (runTask x s).1 := by simp only [runTasks, next]

theorem rest_add_workLeft_lt (next : nextTask ts = some (x, rest)) (other : x ≠ .look) (s : State) :
    (rest ++ (runTask x s).2).length + workLeft (runTask x s).1 < ts.length + workLeft s := by
  have less := length_of_nextTask next
  have used := usesUp_runTask other s
  rw [List.length_append]
  simp only [UsesUp] at used
  omega

/-- A predicate that each piece of work keeps holds of the state in which no work is left. -/
theorem runTasks_keeps {I : List Task → State → Prop}
    (each : ∀ {ts rest x s}, nextTask ts = some (x, rest) → I ts s → I (rest ++ (runTask x s).2) (runTask x s).1)
    {n : Nat} (enough : ts.length + workLeft s ≤ n) (holds : I ts s) : I [] (runTasks n ts s) := by
  induction n generalizing ts s with
  | zero =>
    have none_ : ts = [] := List.eq_nil_of_length_eq_zero (by omega)
    exact none_ ▸ holds
  | succ n ih =>
    cases next : nextTask ts with
    | none =>
      have none_ : ts = [] := by
        by_contra some_
        rcases nextTask_cases ts with ⟨_, _, _, _, _, _, is⟩ | ⟨_, _, is⟩ | ⟨_, _, is⟩ | ⟨none_, -⟩
        · cases next.symm.trans is
        · cases next.symm.trans is
        · cases next.symm.trans is
        · exact some_ none_
      rw [none_, runTasks_nil]
      exact none_ ▸ holds
    | some r =>
      obtain ⟨x, rest⟩ := r
      have after := each next holds
      rw [runTasks_of_nextTask n next]
      by_cases look : x = .look
      · subst look
        rw [rest_of_nextTask_look next] at after ⊢
        rw [show (runTask .look s).2 = [] from rfl, List.append_nil] at after ⊢
        rwa [runTasks_nil]
      · exact ih (Nat.le_of_lt_succ ((rest_add_workLeft_lt next look s).trans_le enough)) after

/-- Fuel beyond the work that is left changes nothing. -/
theorem runTasks_eq_runTasks {n m : Nat} (enough : ts.length + workLeft s ≤ n) (more : ts.length + workLeft s ≤ m) :
    runTasks n ts s = runTasks m ts s := by
  induction n generalizing m ts s with
  | zero =>
    have none_ : ts = [] := List.eq_nil_of_length_eq_zero (by omega)
    rw [none_, runTasks_nil, runTasks_nil]
  | succ n ih =>
    cases m with
    | zero =>
      have none_ : ts = [] := List.eq_nil_of_length_eq_zero (by omega)
      rw [none_, runTasks_nil, runTasks_nil]
    | succ m =>
      cases next : nextTask ts with
      | none => simp only [runTasks, next]
      | some r =>
        obtain ⟨x, rest⟩ := r
        rw [runTasks_of_nextTask n next, runTasks_of_nextTask m next]
        by_cases look : x = .look
        · subst look
          rw [rest_of_nextTask_look next, show (runTask .look s).2 = [] from rfl, List.append_nil, runTasks_nil,
            runTasks_nil]
        · have less := rest_add_workLeft_lt next look s
          exact ih (by omega) (by omega)

theorem settle_keeps {I : List Task → State → Prop}
    (each : ∀ {ts rest x s}, nextTask ts = some (x, rest) → I ts s → I (rest ++ (runTask x s).2) (runTask x s).1)
    (holds : I ts s) : I [] (settle (s, ts)) := runTasks_keeps each (add_workLeft_le_workBound s ts) holds

/-- The work is done a piece at a time, in the order of `nextTask`. -/
theorem settle_of_nextTask (next : nextTask ts = some (x, rest)) :
    settle (s, ts) = settle ((runTask x s).1, rest ++ (runTask x s).2) := by
  have enough := add_workLeft_le_workBound s ts
  have one : settle (s, ts) = runTasks (workBound s ts) (rest ++ (runTask x s).2) (runTask x s).1 :=
    (runTasks_eq_runTasks enough (enough.trans (Nat.le_succ _))).trans (runTasks_of_nextTask _ next s)
  rw [one]
  by_cases look : x = .look
  · subst look
    rw [rest_of_nextTask_look next, show (runTask .look s).2 = [] from rfl, List.append_nil, runTasks_nil, settle_nil]
  · exact runTasks_eq_runTasks ((rest_add_workLeft_lt next look s).le.trans enough) (add_workLeft_le_workBound _ _)

theorem settle_of_look (looks : ∀ y ∈ ts, y = .look) (some_ : ts ≠ []) : settle (s, ts) = allocLook s :=
  (settle_of_nextTask (nextTask_of_look looks some_)).trans (settle_nil _)

end

end Sys2Proof.Machine
end

section
/-! What the work of an event does with an entry that retires, and with the blocks it frees (R16, R17, R27, R30, R155). -/

namespace Sys2Proof.Machine

section
variable {s t u : State} {l k : LaneId}

/-! ### A retirement in the frame of its event -/

theorem Retires.frame {a : Active} {status : Status} {work : List Task} (h : Retires l a status s u work) :
    EventFrame s u := by
  have kept {α : Type} (f : LaneState → α)
      (same : f { s.lane l with active := some { a with context := .retiring status s.timebase, blocks := [] } } =
        f (s.lane l)) (k : LaneId) : f (u.lane k) = f (s.lane k) := by
    rw [h.lanes]
    split
    next mine => rw [mine, same]
    · rfl
  exact {
    pending := by rw [h.rest]
    timebase := by rw [h.rest]
    window := by rw [h.rest]
    store := by rw [h.rest]
    qualifier := by rw [h.rest]
    capture := by rw [h.rest]
    captureRing := by rw [h.rest]
    trips := by rw [h.rest]
    completionRing := by rw [h.rest]
    interrupt := by rw [h.rest]
    outside := by rw [h.rest]
    base := kept LaneState.base rfl
    entries := kept LaneState.entries rfl
    consumer := kept LaneState.consumer rfl
    tail := kept LaneState.tail rfl
    shadow := kept LaneState.shadow rfl
    run := fun k => .inl (kept LaneState.run rfl k)
    posted := by rw [h.rest] }

/-! ### What each piece of work keeps -/

/-- What every piece of work but a grant to lane `l`'s own context port and the allocator's look keeps: an entry of the
lane that retires, the ports that wait, and the free blocks. -/
structure WorkKeeps (l : LaneId) (s t : State) : Prop where
  retiring : ∀ a, (s.lane l).active = some a → a.IsRetiring → (t.lane l).active = some a
  waiting : s.post.waiting <+: t.post.waiting
  free : s.alloc.free <+: t.alloc.free

theorem WorkKeeps.refl (s : State) : WorkKeeps l s s := ⟨fun _ active _ => active, List.prefix_rfl, List.prefix_rfl⟩

theorem WorkKeeps.trans (h : WorkKeeps l s t) (j : WorkKeeps l t u) : WorkKeeps l s u where
  retiring a active retires := j.retiring a (h.retiring a active retires) retires
  waiting := h.waiting.trans j.waiting
  free := h.free.trans j.free

/-- A piece that changes nothing of the lanes. -/
theorem WorkKeeps.of_lanes (lanes : t.lanes = s.lanes) (waiting : s.post.waiting <+: t.post.waiting)
    (free : s.alloc.free <+: t.alloc.free) : WorkKeeps l s t :=
  ⟨fun a active _ => by rwa [State.lane, lanes], waiting, free⟩

/-- A piece that changes one lane, whose active entry does not retire or stays. -/
theorem WorkKeeps.of_lane {y : LaneState} (lanes : ∀ j, t.lane j = if j = k then y else s.lane j)
    (moves : y.active = (s.lane k).active ∨ ∀ a, (s.lane k).active = some a → ¬ a.IsRetiring)
    (waiting : s.post.waiting <+: t.post.waiting) (free : s.alloc.free <+: t.alloc.free) : WorkKeeps l s t where
  retiring a active retires := by
    rw [lanes]
    split
    next mine =>
      subst mine
      exact (moves.resolve_right fun none_ => none_ a active retires).trans active
    · exact active
  waiting := waiting
  free := free

theorem not_isRetiring_of_eq {a : Active} {x : Option Active} (active : x = some a) (other : ¬ a.IsRetiring) :
    ∀ b, x = some b → ¬ b.IsRetiring := fun _ found => Option.some.inj (active.symm.trans found) ▸ other

theorem not_isRetiring_of_claiming {a : Active} (claiming : a.context = .claiming) : ¬ a.IsRetiring := by
  rintro ⟨status, endTime, retiring⟩
  cases claiming.symm.trans retiring

theorem not_isRetiring_of_none {x : Option Active} (empty : x = none) : ∀ a, x = some a → ¬ a.IsRetiring :=
  fun a found => by cases empty.symm.trans found

theorem setLane_keeps {y : LaneState}
    (moves : y.active = (s.lane k).active ∨ ∀ a, (s.lane k).active = some a → ¬ a.IsRetiring) :
    WorkKeeps l s (s.setLane k y) :=
  .of_lane (fun j => setLane_lane_eq s k j y) moves List.prefix_rfl List.prefix_rfl

theorem Retires.keeps {a a₀ : Active} {status : Status} {work : List Task} (h : Retires k a status s u work)
    (active : (s.lane k).active = some a₀) (claiming : a₀.context = .claiming) : WorkKeeps l s u :=
  .of_lane h.lanes (.inr (not_isRetiring_of_eq active (not_isRetiring_of_claiming claiming)))
    (by rw [h.rest]) (by rw [h.rest]; exact List.prefix_append _ _)

theorem LeavesClaiming.keeps {a : Active} {work : List Task} (h : LeavesClaiming k a s u work)
    (active : (s.lane k).active = some a) (claiming : a.context = .claiming) : WorkKeeps l s u := by
  have moves := not_isRetiring_of_eq active (not_isRetiring_of_claiming claiming)
  by_cases group : (burstOf a.record).startMode = .group
  · cases arrives : (s.group (burstOf a.record).group).arrive k (arrivalOf (burstOf a.record)) s.timebase with
    | none => exact ((h.2 group).2 arrives).keeps active claiming
    | some x =>
      obtain ⟨-, rest, -, lanes⟩ := (h.2 group).1 x arrives
      exact .of_lane lanes (.inr moves) (by rw [rest]) (by rw [rest])
  · obtain ⟨-, rest, lanes⟩ := h.1 group
    exact .of_lane lanes (.inr moves) (by rw [rest]) (by rw [rest])

theorem claimGranted_keeps (k : LaneId) (s : State) : WorkKeeps l s (claimGranted k s).1 := by
  by_cases claims : ∃ a, (s.lane k).active = some a ∧ a.context = .claiming
  · obtain ⟨a, active, claiming⟩ := claims
    exact (leavesClaiming_claimGranted active claiming).keeps active claiming
  · rw [claimGranted_of_not_claiming fun a active claiming => claims ⟨a, active, claiming⟩]
    exact .refl s

theorem presentClaim_keeps {a : Active} (active : (s.lane k).active = some a) (claiming : a.context = .claiming) :
    WorkKeeps l s (presentClaim k a s).1 := by
  simp only [presentClaim]
  split
  · refine .trans ?_ (claimGranted_keeps k (grantClaim k _ _ s))
    exact .of_lanes rfl List.prefix_rfl List.prefix_rfl
  · split
    · exact .of_lanes rfl List.prefix_rfl List.prefix_rfl
    · exact (retires_retire k a .pinConflict s).keeps active claiming

theorem examine_keeps (s : State) : WorkKeeps l s (examine s).1 := by
  obtain ⟨order, n, -, examines⟩ := examinationGrantsEveryClaimThatFits.2.2.2.2.1 s
  rw [show examine s = _ from examines, (examined_examineClaims s).rest]
  exact .of_lanes rfl List.prefix_rfl List.prefix_rfl

theorem grantContext_keeps (other : k ≠ l) (s : State) : WorkKeeps l s (grantContext k s).1 := by
  by_cases retires : ∃ a status endTime, (s.lane k).active = some a ∧ a.context = .retiring status endTime
  · obtain ⟨a, status, endTime, active, retiring⟩ := retires
    rw [grantContext_of_retiring active retiring]
    refine ⟨fun b found _ => ?_, List.prefix_rfl, List.prefix_rfl⟩
    rw [postRecord_lane, State.lane_setLane, if_neg other]
    exact found
  · rw [grantContext_of_not_retiring fun a active ⟨status, endTime, retiring⟩ =>
      retires ⟨a, status, endTime, active, retiring⟩]
    exact .refl s

theorem grantRetune_keeps (k : LaneId) (s : State) : WorkKeeps l s (grantRetune k s).1 := by
  cases outbox : (s.lane k).outbox with
  | nil =>
    rw [grantRetune, outbox]
    exact .refl s
  | cons c rest =>
    rw [grantRetune_of_outbox outbox]
    exact .of_lane (fun j => setLane_lane_eq s k j _) (.inl rfl) List.prefix_rfl List.prefix_rfl

theorem askPort_keeps {p : Port} (other : p ≠ .context l) (s : State) : WorkKeeps l s (askPort p s).1 := by
  rcases askPort_cases p s with ⟨-, -, granted⟩ | waits
  · rw [granted]
    cases p with
    | context k => exact grantContext_keeps (fun same => other (congrArg Port.context same)) s
    | retune k => exact grantRetune_keeps k s
  · rw [waits]
    exact .of_lanes rfl (List.prefix_append _ _) List.prefix_rfl

theorem takeRetiring_keeps (empty : (s.lane k).active = none) (kind : Byte) (record : Bytes 64) (status : Status)
    (late : Bool) : WorkKeeps l s (takeRetiring k kind record status late s).1 :=
  setLane_keeps (.inr (not_isRetiring_of_none empty))

theorem takeEntry_keeps (empty : (s.lane k).active = none) (e : Entry) : WorkKeeps l s (takeEntry k e s).1 := by
  have idle := not_isRetiring_of_none empty
  rw [takeEntry]
  split
  · exact takeRetiring_keeps empty ..
  split
  · refine .trans ?_ (presentClaim_keeps ?_ rfl)
    · exact setLane_keeps (.inr idle)
    · rw [State.setActive_eq, State.lane_setLane, if_pos rfl]
  split
  · simp only [takeMark]
    split
    · exact takeRetiring_keeps empty ..
    split
    · exact takeRetiring_keeps empty ..
    · exact setLane_keeps (.inr idle)
  split
  · refine .trans ?_ (takeRetiring_keeps (s := releaseLane k s) empty e.kind e.record .ok false)
    exact .of_lanes rfl List.prefix_rfl List.prefix_rfl
  · simp only [takeResume]
    split
    · split
      · exact takeRetiring_keeps empty ..
      · refine .trans ?_ (takeRetiring_keeps ?_ ..)
        · exact setLane_keeps (.inl rfl)
        · rw [State.lane_setLane, if_pos rfl]
          exact empty
    · exact takeRetiring_keeps empty ..

theorem takeHead_keeps (empty : (s.lane k).active = none) : WorkKeeps l s (takeHead k s).1 := by
  rw [takeHead]
  split
  · exact .refl s
  · split
    · refine .trans ?_ (takeEntry_keeps ?_ _)
      · exact setLane_keeps (.inl rfl)
      · rw [State.lane_setLane, if_pos rfl]
        exact empty
    · exact .refl s

theorem takeFront_keeps (k : LaneId) (s : State) : WorkKeeps l s (takeFront k s).1 := by
  by_cases busy : (s.lane k).active ≠ none ∨ (s.lane k).run = .off
  · rw [takeFront_of_busy busy]
    exact .refl s
  · obtain ⟨empty, runs⟩ := not_or.mp busy
    have empty : (s.lane k).active = none := not_not.mp empty
    rw [takeFront_of_idle empty runs]
    split
    · exact takeHead_keeps empty
    · split
      · exact takeRetiring_keeps empty ..
      · exact takeHead_keeps empty

theorem runTask_keeps {x : Task} (work : x ≠ .look) (other : x ≠ .ask (.context l)) (s : State) :
    WorkKeeps l s (runTask x s).1 := by
  cases x with
  | look => exact absurd rfl work
  | examine => exact examine_keeps s
  | granted k => exact claimGranted_keeps k s
  | ask p => exact askPort_keeps (fun same => other (congrArg Task.ask same)) s
  | take k => exact takeFront_keeps k s

/-! ### The retired entry's way to its record -/

theorem allocLook_keeps (s : State) :
    (allocLook s).post = s.post ∧ ∀ k, ((allocLook s).lane k).active = (s.lane k).active := by
  rw [allocLook]
  generalize s.alloc.queue.length + stagedCount s = n
  induction n generalizing s with
  | zero => exact ⟨rfl, fun _ => rfl⟩
  | succ n ih =>
    rw [allocRun_succ]
    cases turn : allocTurn s with
    | none => exact ⟨rfl, fun _ => rfl⟩
    | some t =>
      obtain ⟨post, actives⟩ := ih t
      obtain ⟨r, rest, -, dropped | ⟨-, granted⟩⟩ := allocTurn_some_cases turn
      · subst dropped
        exact ⟨post, actives⟩
      · subst granted
        refine ⟨post.trans (by rw [grantHead_changes]), fun k => (actives k).trans ?_⟩
        rw [grantHead_lane]
        split
        next mine => rw [mine]
        · rfl

section
variable {a : Active} {status : Status} {now : Tick}

theorem Retired.of_keeps (h : Retired l a status now s) (active : (s.lane l).active = some (a.retire status now) →
    (t.lane l).active = some (a.retire status now)) (waiting : s.post.waiting <+: t.post.waiting)
    (posted : s.post.items <+: t.post.items) : Retired l a status now t := by
  rcases h with ⟨waits, asked⟩ | ⟨x, placed, record⟩
  · exact .inl ⟨active waits, waiting.subset asked⟩
  · exact .inr ⟨x, posted.subset placed, record⟩

/-- The record that a grant to its context port places for a retired entry. -/
theorem retired_grantContext (active : (s.lane l).active = some (a.retire status now)) :
    Retired l a status now (grantContext l s).1 := by
  rw [grantContext_of_retiring active rfl]
  exact .inr ⟨⟨.general, completionOf l (a.retire status now) status now s⟩, List.mem_append_right _ (by simp), rfl, rfl,
    rfl, rfl, rfl, rfl, rfl, rfl, rfl, rfl⟩

theorem retired_askContext (active : (s.lane l).active = some (a.retire status now)) :
    Retired l a status now (askPort (.context l) s).1 := by
  rcases askPort_cases (.context l) s with ⟨-, -, granted⟩ | waits
  · rw [granted]
    exact retired_grantContext active
  · rw [waits]
    exact .inl ⟨active, by simp⟩

/-- A retired entry whose port has still to ask, or that is on its way already. -/
def Retiring (l : LaneId) (a : Active) (status : Status) (now : Tick) (ts : List Task) (s : State) : Prop :=
  Retired l a status now s ∨ ((s.lane l).active = some (a.retire status now) ∧ .ask (.context l) ∈ ts)

theorem Retiring.next {ts rest : List Task} {x : Task} (next : nextTask ts = some (x, rest))
    (h : Retiring l a status now ts s) : Retiring l a status now (rest ++ (runTask x s).2) (runTask x s).1 := by
  have posted := (runTask_frame x s).posted
  by_cases look : x = .look
  · subst look
    obtain ⟨post, actives⟩ := allocLook_keeps s
    rcases h with retired | ⟨-, asks⟩
    · exact .inl (retired.of_keeps (fun active => (actives l).trans active) (by rw [runTask, post]) posted)
    · have left := mem_rest_of_nextTask next rfl asks nofun
      rw [rest_of_nextTask_look next] at left
      cases left
  by_cases own : x = .ask (.context l)
  · subst own
    rcases h with (⟨active, -⟩ | ⟨y, placed, record⟩) | ⟨active, -⟩
    · exact .inl (retired_askContext active)
    · exact .inl (.inr ⟨y, posted.subset placed, record⟩)
    · exact .inl (retired_askContext active)
  · have keeps := runTask_keeps (l := l) look own s
    have stays (active : (s.lane l).active = some (a.retire status now)) :=
      keeps.retiring _ active ⟨status, now, rfl⟩
    rcases h with retired | ⟨active, asks⟩
    · exact .inl (retired.of_keeps stays keeps.waiting posted)
    · have left := mem_rest_of_nextTask next rfl asks (Ne.symm own)
      exact .inr ⟨stays active, List.mem_append_left _ left⟩

theorem Retired.hostPort (h : Retired l a status now s) : Retired l a status now (hostPort s) := by
  have turns := hostPort_frame s
  have active : ((Machine.hostPort s).lane l).active = (s.lane l).active :=
    (congrArg LaneState.active (turns.lanes l) :)
  exact h.of_keeps active.trans (by rw [turns.post]) (by rw [turns.post])

theorem Retires.retired {work : List Task} (h : Retires l a status s u work) :
    Retired l a status s.timebase (hostPort (settle (u, work))) := by
  have begins : Retiring l a status s.timebase work u :=
    .inr ⟨by rw [h.lanes, if_pos rfl]; rfl, h.work.symm.subset (by simp)⟩
  exact ((settle_keeps Retiring.next begins).resolve_right fun left => List.not_mem_nil left.2).hostPort

end

/-! ### The freed blocks' way -/

/-- Block `b` is free, or a staging entry that has its blocks holds it. -/
def FreeOrGranted (b : Nat) (s : State) : Prop :=
  b ∈ s.alloc.free ∨ ∃ k, ∃ e ∈ (s.lane k).staging, e.state ≠ .waitBlocks ∧ b ∈ e.blocks

theorem mem_grantOldest_of_mem {q : List Entry} {e : Entry} (staged : e ∈ q) (granted : e.state ≠ .waitBlocks)
    (bs : List Nat) : e ∈ grantOldest bs q := by
  induction q with
  | nil => cases staged
  | cons x q ih =>
    rw [grantOldest]
    rcases List.mem_cons.1 staged with rfl | later
    · rw [if_neg granted]
      exact List.mem_cons_self
    · split
      · exact List.mem_cons_of_mem _ later
      · exact List.mem_cons_of_mem _ (ih later)

theorem exists_mem_grantOldest {q : List Entry} (waits : oldestWaiting q ≠ none) (bs : List Nat) :
    ∃ e : Entry, e.grant bs ∈ grantOldest bs q := by
  obtain ⟨e, found⟩ := Option.ne_none_iff_exists'.1 waits
  obtain ⟨waiting, older, younger, rfl, hold⟩ := List.find?_eq_some_iff_append.1 found
  refine ⟨e, ?_⟩
  rw [grantOldest_append_cons (by simpa using hold) (by simpa using waiting)]
  simp

theorem FreeOrGranted.grantHead {b : Nat} (h : FreeOrGranted b s) (r : AllocRequest) (rest : List AllocRequest)
    (waits : oldestWaiting (s.lane r.lane).staging ≠ none) : FreeOrGranted b (grantHead r rest s) := by
  rcases h with free | ⟨k, e, staged, granted, holds⟩
  · rw [← List.take_append_drop r.need s.alloc.free, List.mem_append] at free
    rcases free with taken | stays
    · obtain ⟨e, moved⟩ := exists_mem_grantOldest waits (s.alloc.free.take r.need)
      exact .inr ⟨r.lane, e.grant (s.alloc.free.take r.need), by rwa [grantHead_lane, if_pos rfl], nofun, taken⟩
    · exact .inl (by rwa [grantHead_free])
  · refine .inr ⟨k, e, ?_, granted, holds⟩
    rw [grantHead_lane]
    split
    next mine => exact mem_grantOldest_of_mem (mine ▸ staged) granted _
    · exact staged

theorem FreeOrGranted.allocLook {b : Nat} (h : FreeOrGranted b s) : FreeOrGranted b (allocLook s) := by
  rw [Machine.allocLook]
  generalize s.alloc.queue.length + stagedCount s = n
  induction n generalizing s with
  | zero => exact h
  | succ n ih =>
    rw [allocRun_succ]
    cases turn : allocTurn s with
    | none => exact h
    | some t =>
      obtain ⟨r, rest, -, dropped | ⟨waits, granted⟩⟩ := allocTurn_some_cases turn
      · subst dropped
        exact ih h
      · subst granted
        exact ih (h.grantHead r rest waits)

/-- The blocks are free while work is left; the allocator's look, the last piece, may grant them on. -/
def Frees (blocks : List Nat) (ts : List Task) (s : State) : Prop :=
  blocks ⊆ s.alloc.free ∨ (ts = [] ∧ ∀ b ∈ blocks, FreeOrGranted b s)

theorem free_askPort (p : Port) (s : State) : (askPort p s).1.alloc = s.alloc := by
  rcases askPort_cases p s with ⟨-, -, granted⟩ | waits
  · rw [granted]
    cases p with
    | context l =>
      rw [grantPort, grantContext]
      split
      · rfl
      · split <;> rfl
    | retune l =>
      rw [grantPort, grantRetune]
      split <;> rfl
  · rw [waits]

theorem free_runTask {x : Task} (work : x ≠ .look) (s : State) : s.alloc.free ⊆ (runTask x s).1.alloc.free := by
  by_cases asks : ∃ p, x = .ask p
  · obtain ⟨p, rfl⟩ := asks
    rw [runTask, free_askPort]
    exact List.Subset.refl _
  · exact (runTask_keeps (l := 0) work (fun own => asks ⟨_, own⟩) s).free.subset

theorem Frees.next {blocks : List Nat} {ts rest : List Task} {x : Task} (next : nextTask ts = some (x, rest))
    (h : Frees blocks ts s) : Frees blocks (rest ++ (runTask x s).2) (runTask x s).1 := by
  rcases h with free | ⟨none_, -⟩
  · by_cases look : x = .look
    · subst look
      exact .inr ⟨by rw [rest_of_nextTask_look next]; rfl, fun b mine => FreeOrGranted.allocLook (.inl (free mine))⟩
    · exact .inl (List.Subset.trans free (free_runTask look s))
  · subst none_
    cases next

theorem freed_hostPort {blocks : List Nat} (h : ∀ b ∈ blocks, FreeOrGranted b s) : Freed blocks (hostPort s) := by
  intro b mine
  have turns := hostPort_frame s
  rcases h b mine with free | ⟨k, e, staged, -, holds⟩
  · exact .inl (by rwa [turns.alloc])
  · refine .inr (List.mem_flatMap.2 ⟨k, mem_allLanes k, List.mem_append_right _ (List.mem_flatMap.2 ?_)⟩)
    have same : ((hostPort s).lane k).staging.map Entry.unread = (s.lane k).staging.map Entry.unread :=
      (congrArg LaneState.staging (turns.lanes k) :)
    obtain ⟨e', staged', unread⟩ := List.mem_map.1 (same ▸ List.mem_map_of_mem staged)
    exact ⟨e', staged', (congrArg Entry.blocks unread :).symm ▸ holds⟩

theorem Retires.freed {a : Active} {status : Status} {work : List Task} (h : Retires l a status s u work) :
    Freed a.blocks (hostPort (settle (u, work))) := by
  have begins : Frees a.blocks work u := .inl (by rw [h.rest]; exact List.subset_append_right _ _)
  have settled := settle_keeps Frees.next begins
  exact freed_hostPort fun b mine => settled.elim (fun free => .inl (free mine)) fun granted => granted.2 b mine

end

/-- Settles O29. -/
theorem waitsEndAtTheirTick : Obligations.WaitsEndAtTheirTick := by
  refine ⟨fun l c a s waits lane expires active claiming => ?_, fun l late a s active mark waits => ?_,
    fun l a status s u work retires => ⟨retires.retired, retires.freed, retires.frame.trans (finish_frame (u, work))⟩,
    settle_nil, fun x pre post s noLook noExamine wait => ?_, fun ts s wait asked => ?_,
    fun ts s looks some_ => settle_of_look looks some_, fun s => ⟨rfl, rfl, fun _ => rfl, fun _ => rfl⟩,
    fun s work => finish_frame (s, work)⟩
  · have due := (claimExpires_iff l s).2 ⟨c, waits, lane, expires⟩
    have ends : claimTimesOut l s = retire l a .claimTimeout (withdrawClaim l s) := by
      simp only [claimTimesOut, active, claiming, if_true]
    have done : exec (.claimTimeout l) s = finish (retire l a .claimTimeout (withdrawClaim l s)) :=
      (if_pos due).trans (congrArg finish ends)
    exact ⟨_, _, done, retires_retire l a .claimTimeout (withdrawClaim l s)⟩
  · have done : exec (.markDue l) s = finish (retire l a .ok s) := by
      show execMarkDue l s = _
      rw [execMarkDue, waitEnds_of_waiting (kind := kindMark) active mark waits]
    exact ⟨_, _, done, retires_retire l a .ok s⟩
  · have ready : x.waits = false := by simp [← Bool.not_eq_true, waits_iff, noLook, noExamine]
    exact settle_of_nextTask (nextTask_append_cons ready fun y inPre => (waits_iff y).2 (wait y inPre))
  · exact settle_of_nextTask (nextTask_of_examine (fun y inList => (waits_iff y).2 (wait y inList)) asked)

end Sys2Proof.Machine
end
